-- ==== Sys2Proof/Word.lean ====
section
/-! DEFINITION. The plainest types of the model: bytes, wrapping counters, record identifiers and the
fixed-size tables of the part (00_scope.md, "Identifiers"; 12_telegram_and_record_layouts.md R193). -/

namespace Sys2Proof

/-- One byte of a telegram. -/
abbrev Byte := BitVec 8

/-- A meter counter of a station: 32 bits, wrapping (R75, R105, R128). -/
abbrev Counter := BitVec 32

/-- A 32-bit credential number (R155). -/
abbrev CardNumber := BitVec 32

/-- Pontoons A to L, numbered 0 to 11 with A = 0. -/
abbrev PontoonId := Fin 12
/-- Berths 0 to 239. -/
abbrev BerthId := Fin 240
/-- Stays 0 to 255. -/
abbrev StayId := Fin 256
/-- Accounts 0 to 511. -/
abbrev AccountId := Fin 512
/-- Shore-power outlets 0 to 191. -/
abbrev OutletId := Fin 192
/-- Water taps 0 to 127. -/
abbrev TapId := Fin 128
/-- Stations 0 to 127. -/
abbrev StationId := Fin 128
/-- Branches B0 to B5. -/
abbrev BranchId := Fin 6
/-- Dispensers D0 to D3. -/
abbrev DispenserId := Fin 4
/-- Fuel grades G0 and G1. -/
abbrev GradeId := Fin 2
/-- Credential table slots 0 to 1023. -/
abbrev CredentialSlot := Fin 1024
/-- Hold slots 0 to 15. -/
abbrev HoldSlot := Fin 16
/-- Priority classes 0 ESSENTIAL, 1 STANDARD, 2 COMFORT, 3 DEFERRABLE (R6). -/
abbrev PriorityClass := Fin 4
/-- A set of priority classes, one bit for each class (R193). -/
abbrev ClassSet := BitVec 4
/-- A set of pontoons, one bit for each pontoon (R193). -/
abbrev PontoonSet := BitVec 12

/-- The entries of a table with their identifiers, in ascending order. -/
def entries {α : Type} {n : Nat} (t : Vector α n) : List (Fin n × α) :=
  (List.finRange n).zip t.toList

end Sys2Proof
end

