-- ==== Sys2Proof/Syntax.lean ====
section
/-! DEFINITION. The commands of the block: one constructor of `Instr` for each row of spec/opcode_table.json. A row that is a
telegram carries its bytes as they were received, so that check, length and every coded field are judged by the part (R172,
R193 to R196); a row that the part's own timers or its input lines cause carries typed operands, because nothing else can cause
it. The structures before `Instr` are what those bytes say, each field the plain number that was read. -/

namespace Sys2Proof

/-- The fields of a received trunk telegram beside its kind, code and payload: node, tag, length and check (R172). -/
structure ReqHeader where
  node   : Nat
  tag    : Nat
  length : Nat
  check  : Nat
  deriving DecidableEq, Repr

/-- The marina settings record as a write carries it (R177). -/
structure MarinaWrite where
  node          : Nat
  lead          : Nat
  keel          : Nat
  exitGrace     : Nat
  deglitch      : Nat
  tripCount     : Nat
  graceTime     : Nat
  leakThreshold : Nat
  staffAccount  : Option Nat
  deriving DecidableEq, Repr

/-- The settings part of a pontoon record (R1). -/
structure PontoonWrite where
  gatePresent    : Nat
  capacity       : Nat
  reserve        : Nat
  commitLimit    : Nat
  peopleCapacity : Nat
  passbackStrict : Nat
  curfewStart    : Nat
  curfewEnd      : Nat
  curfewMode     : Nat
  vf             : Nat
  vr             : Nat
  deriving DecidableEq, Repr

/-- The settings part of a berth record (R3). -/
structure BerthWrite where
  pontoon : Nat
  maxLoa  : Nat
  maxBeam : Nat
  depth   : Nat
  outlets : List Nat
  tap     : Option Nat
  deriving DecidableEq, Repr

/-- The settings part of a stay record (R6); `powerClass` is its code, 0 NONE, 1 to 4 for 16, 32, 63 and 125 A. -/
structure StayWrite where
  loa        : Nat
  beam       : Nat
  draft      : Nat
  powerClass : Nat
  priority   : Nat
  allowance  : Nat
  account    : Nat
  arrival    : Nat
  departure  : Nat
  holdGrace  : Nat
  prefs      : PontoonSet
  autoArrive : Nat
  deriving DecidableEq, Repr

/-- The settings part of an account record (R38); `kind` is 0 PREPAID, 1 CREDIT. -/
structure AccountWrite where
  kind          : Nat
  creditLimit   : Nat
  adjustment    : Int
  lowThreshold  : Nat
  restoreMargin : Nat
  deriving DecidableEq, Repr

/-- The tariff record (R53). -/
structure TariffWrite where
  powerDay   : Nat
  powerNight : Nat
  water      : Nat
  fuel0      : Nat
  fuel1      : Nat
  berth      : Nat
  dayStart   : Nat
  dayEnd     : Nat
  deriving DecidableEq, Repr

/-- The settings part of a branch record (R62). -/
structure BranchWrite where
  rateCode      : Nat
  missLimit     : Nat
  answerTimeout : Nat
  ratio         : Nat
  deriving DecidableEq, Repr

/-- The settings part of a station record (R67); `kind` is 0 NONE, 1 POST, 2 GATE_READER, 3 DISPENSER,
4 FEEDER_MONITOR. -/
structure StationWrite where
  kind        : Nat
  branch      : Nat
  address     : Nat
  enabled     : Nat
  outletCount : Option Nat
  tapCount    : Option Nat
  pontoon     : Option Nat
  deriving DecidableEq, Repr

/-- A filter record: one mode for each command class (R181), 0 PASS, 1 PASS_NOTE, 2 BLOCK_NOTE, 3 BLOCK. -/
structure FilterWrite where
  query   : Nat
  config  : Nat
  actuate : Nat
  service : Nat
  deriving DecidableEq, Repr

/-- The settings part of an outlet record (R84). -/
structure OutletWrite where
  post   : Option Nat
  socket : Nat
  rating : Nat
  deriving DecidableEq, Repr

/-- A start record: start time in s and start factor in percent (R86). -/
structure StartWrite where
  startTime   : Nat
  startFactor : Nat
  deriving DecidableEq, Repr

/-- One step of a load program as a write carries it (R119). -/
structure StepWrite where
  delay   : Nat
  mask    : ClassSet
  endFlag : Nat
  deriving DecidableEq, Repr

/-- The settings part of a tap record (R124); the maximum run is in minutes. -/
structure TapWrite where
  post     : Option Nat
  tapIndex : Nat
  maxRun   : Nat
  deriving DecidableEq, Repr

/-- The settings part of a tank record (R133). -/
structure TankWrite where
  reserve  : Nat
  lowStock : Nat
  deriving DecidableEq, Repr

/-- The settings part of a dispenser record (R135). -/
structure DispenserWrite where
  station       : Option Nat
  grade         : Nat
  maxPreset     : Nat
  tolerance     : Nat
  nozzleTimeout : Nat
  deriving DecidableEq, Repr

/-- The settings part of a credential record and its written state (R155, R156); `kind` is 0 GUEST, 1 CREW, 2 STAFF,
3 CONTRACTOR, 4 NONE, and `state` 0 ACTIVE, 1 SUSPENDED, 2 EXIT_ONLY, 3 EXPIRED. -/
structure CredentialWrite where
  number    : CardNumber
  kind      : Nat
  stay      : Option Nat
  account   : Option Nat
  pontoons  : PontoonSet
  validFrom : Nat
  validTo   : Nat
  state     : Nat
  deriving DecidableEq, Repr

/-- The settings part of a gate record (R158). -/
structure GateWrite where
  reader     : Option Nat
  unlockTime : Nat
  heldLimit  : Nat
  deriving DecidableEq, Repr

/-- The settings part of a signal record (R188); `polarity` is 0 ACTIVE_HIGH, 1 ACTIVE_LOW. -/
structure SignalWrite where
  mask     : BitVec 8
  enable   : Nat
  polarity : Nat
  stretch  : Nat
  deriving DecidableEq, Repr

/-- The event byte of a report (R64): the station's event number and the flags EVENT and STARTED. -/
structure EventByte where
  number  : Fin 16
  event   : Bool
  started : Bool
  deriving DecidableEq, Repr

/-- One outlet entry of a post report (R75, R194). -/
structure OutletEntry where
  plug        : Bool
  energised   : Bool
  leakage     : Bool
  overcurrent : Bool
  current     : Nat
  energy      : Counter
  deriving DecidableEq, Repr

/-- One tap entry of a post report (R75, R194). -/
structure TapEntry where
  valveOpen : Bool
  flowing   : Bool
  flow      : Counter
  deriving DecidableEq, Repr

/-- The event a gate reader reports (R75). -/
inductive ReaderEvent where
  | cardIn (number : CardNumber)
  | cardOut (number : CardNumber)
  | exitButton
  deriving DecidableEq, Repr

/-- A final reading still outstanding at a berth: of an outlet or of a tap (R3, R20). -/
inductive ReadItem where
  | outlet (o : OutletId)
  | tap (t : TapId)
  deriving DecidableEq, Repr

/-- The commands: one constructor for each row of spec/opcode_table.json, in the table's order. A request row carries the telegram's
header and its payload `p` as received; the row of one table's WRITE RECORD carries the payload behind the table's byte, and
the rows that no single code names carry the code too. The reply rows carry the whole reply. -/
inductive Instr where
  | trunkTelegramDiscarded (bytes : List Byte)
  | requestRepeat (h : ReqHeader) (code : Nat) (p : List Byte)
  | requestBusy (h : ReqHeader) (code : Nat) (p : List Byte)
  | unknownCode (h : ReqHeader) (code : Nat) (p : List Byte)
  | status (h : ReqHeader) (p : List Byte)
  | fetchNotice (h : ReqHeader) (p : List Byte)
  | readRecords (h : ReqHeader) (p : List Byte)
  | readNext (h : ReqHeader) (p : List Byte)
  | writeRecord (h : ReqHeader) (p : List Byte)
  | writeMarinaSettings (h : ReqHeader) (p : List Byte)
  | writePontoonRecord (h : ReqHeader) (p : List Byte)
  | writeBerthRecord (h : ReqHeader) (p : List Byte)
  | writeStayRecord (h : ReqHeader) (p : List Byte)
  | writeAccountRecord (h : ReqHeader) (p : List Byte)
  | writeTariffRecord (h : ReqHeader) (p : List Byte)
  | writeBranchRecord (h : ReqHeader) (p : List Byte)
  | writeStationRecord (h : ReqHeader) (p : List Byte)
  | writeFilterRecord (h : ReqHeader) (p : List Byte)
  | writeOutletRecord (h : ReqHeader) (p : List Byte)
  | writeStartRecord (h : ReqHeader) (p : List Byte)
  | writeProgramRecord (h : ReqHeader) (p : List Byte)
  | writeTapRecord (h : ReqHeader) (p : List Byte)
  | writeTankRecord (h : ReqHeader) (p : List Byte)
  | writeDispenserRecord (h : ReqHeader) (p : List Byte)
  | writeCredentialRecord (h : ReqHeader) (p : List Byte)
  | writeGateRecord (h : ReqHeader) (p : List Byte)
  | writeSignalRecord (h : ReqHeader) (p : List Byte)
  | createStay (h : ReqHeader) (p : List Byte)
  | assign (h : ReqHeader) (p : List Byte)
  | unassign (h : ReqHeader) (p : List Byte)
  | cancelStay (h : ReqHeader) (p : List Byte)
  | arrive (h : ReqHeader) (p : List Byte)
  | extend (h : ReqHeader) (p : List Byte)
  | depart (h : ReqHeader) (p : List Byte)
  | move (h : ReqHeader) (p : List Byte)
  | openBerth (h : ReqHeader) (p : List Byte)
  | closeBerth (h : ReqHeader) (p : List Byte)
  | allocate (h : ReqHeader) (p : List Byte)
  | stayLapse (stay : StayId)
  | overstay (stay : StayId)
  | finalReadTimeout (berth : BerthId) (item : ReadItem)
  | leadSubmission
  | resubmission
  | scanStep
  | attemptComplete
  | openAccount (h : ReqHeader) (p : List Byte)
  | suspendAccount (h : ReqHeader) (p : List Byte)
  | resumeAccount (h : ReqHeader) (p : List Byte)
  | closeAccount (h : ReqHeader) (p : List Byte)
  | credit (h : ReqHeader) (p : List Byte)
  | debit (h : ReqHeader) (p : List Byte)
  | clearSaturated (h : ReqHeader) (p : List Byte)
  | hold (h : ReqHeader) (p : List Byte)
  | releaseHold (h : ReqHeader) (p : List Byte)
  | holdExpiry (slot : HoldSlot)
  | nightlyPassStart
  | nightlyPassStep
  | rolloverDone
  | slotSelection (branch : BranchId)
  | ringIdleTimeout (branch : BranchId)
  | answerTimeout (branch : BranchId)
  | badReply (branch : BranchId) (reply : List Byte)
  | relayAnswer (branch : BranchId) (reply : List Byte)
  | postReport (branch : BranchId) (reply : List Byte)
  | gateReaderReport (branch : BranchId) (reply : List Byte)
  | dispenserReport (branch : BranchId) (reply : List Byte)
  | feederMonitorReport (branch : BranchId) (reply : List Byte)
  | relay (h : ReqHeader) (p : List Byte)
  | startTimerExpiry (outlet : OutletId)
  | graceTimerExpiry (outlet : OutletId)
  | resetOutlet (h : ReqHeader) (p : List Byte)
  | lockOutlet (h : ReqHeader) (p : List Byte)
  | unlockOutlet (h : ReqHeader) (p : List Byte)
  | shedFeeder (h : ReqHeader) (p : List Byte)
  | restoreFeeder (h : ReqHeader) (p : List Byte)
  | programStepTimer (pontoon : PontoonId)
  | runTimerExpiry (tap : TapId)
  | clearTap (h : ReqHeader) (p : List Byte)
  | lockTap (h : ReqHeader) (p : List Byte)
  | stock (h : ReqHeader) (p : List Byte)
  | setStock (h : ReqHeader) (p : List Byte)
  | openDispenser (h : ReqHeader) (p : List Byte)
  | closeDispenser (h : ReqHeader) (p : List Byte)
  | authorise (h : ReqHeader) (p : List Byte)
  | nozzleTimeout (dispenser : DispenserId)
  | cancelSale (h : ReqHeader) (p : List Byte)
  | offlineSettleTimeout (dispenser : DispenserId)
  | estopAsserted
  | estopReleased
  | readSale (h : ReqHeader) (p : List Byte)
  | dropSale (h : ReqHeader) (p : List Byte)
  | unlockTimerExpiry (gate : PontoonId)
  | doorHeldTimeout (gate : PontoonId)
  | clearGateAlarm (h : ReqHeader) (p : List Byte)
  | fireAsserted
  | fireReleased
  | releaseGates (h : ReqHeader) (p : List Byte)
  | secureGates (h : ReqHeader) (p : List Byte)
  | setHeadcount (h : ReqHeader) (p : List Byte)
  | exitOnlyExpiry (slot : CredentialSlot)
  | clockAdvance
  | setClock (h : ReqHeader) (p : List Byte)
  | stretchTimerExpiry (line : Fin 2)
  | run (h : ReqHeader) (p : List Byte)
  | restart (h : ReqHeader) (p : List Byte)
  | commandRestart (elapsed : Nat) (strapLow : Bool)
  | clear (h : ReqHeader) (p : List Byte)
  | clearCommandFullClear
  | powerUp (cellHeld : Bool) (elapsed : Nat) (strapLow : Bool)
  | resetAsserted
  | resetReleased (elapsed : Nat) (strapLow : Bool)
  | powerLoss (cutShort : Bool)
  | answerSent
  | replyBegin (branch : BranchId)
  deriving DecidableEq, Repr

end Sys2Proof
end

