-- ==== Sys2Proof/Decode.lean ====
section
/-! DEFINITION. What a word of the command table spells. spec/opcode_table.json gives no row any bits: the commands are the trunk
requests, reports, timers and lines of the rules, not words (log entry 2). So no word spells a command. -/

namespace Sys2Proof

/-- The command a word spells by the table's bits: none, because the table gives none. -/
def decodeTableWord (_nbits _w : Nat) : Option Instr := none

end Sys2Proof
end

