-- ==== Sys2Proof/Config.lean ====
section
/-! DEFINITION. What is fixed for the part: the constants the rules of spec/ state, and the free values,
which spec/ leaves open. A free value is an opaque constant with no body: no proof can see what it is. -/

namespace Sys2Proof.Config

/-- The largest marina-clock value, at which the clock stops (R185). -/
def clockMax : Nat := 4294967295
/-- Seconds in a day (00_scope.md, "Time"). -/
def daySeconds : Nat := 86400
/-- The bound of an account balance in cents, either way (R38). -/
def balanceBound : Nat := 99999999
/-- Points in a cent (R55). -/
def pointsPerCent : Nat := 10000
/-- Notices the upward queue holds at most (R183). -/
def noticeLimit : Nat := 64
/-- Entries the allocation request queue holds at most (R25). -/
def allocationPlaces : Nat := 4
/-- Where the resubmit count saturates (R29). -/
def resubmitLimit : Nat := 240
/-- Entries a relay-down queue holds at most (R79). -/
def relayPlaces : Nat := 4
/-- Ring passes between two probes of an OFFLINE station (R71). -/
def probePasses : Nat := 8
/-- Pending passages a gate holds at most (R162). -/
def passagePlaces : Nat := 4
/-- Journal records and running sales together at most (R140). -/
def journalPlaces : Nat := 32
/-- The largest meter delta charged at an outlet, Wh (R56, R105). -/
def powerDeltaCap : Nat := 5000
/-- The largest meter delta charged at a tap, dL (R56, R128). -/
def waterDeltaCap : Nat := 2000
/-- The largest fuel volume charged in one sale, cl (R56, R147). -/
def fuelVolumeCap : Nat := 200000
/-- The largest stock of a tank, cl (R133). -/
def stockMax : Nat := 99999999
/-- The least preset an authorisation gives, cl (R141). -/
def presetMin : Nat := 100
/-- The final-read timeout in ms of the internal time base (R20). -/
def finalReadMs : Nat := 60000
/-- The offline settle time in ms (R148). -/
def offlineSettleMs : Nat := 60000
/-- The time after a clear within which a new trip locks the outlet, in ms (R97). -/
def relockMs : Nat := 600000
/-- One second of the internal time base, in the model's unit of 1 ms. -/
def secondMs : Nat := 1000
/-- One minute of the internal time base in ms. -/
def minuteMs : Nat := 60000
/-- The sampling period of the FIRE and ESTOP inputs in ms (R189). -/
def samplePeriodMs : Nat := 10
/-- Scan steps made in a millisecond in which nothing else waits: a walk of 240 berths ends within 3 ms (R30). -/
def scanStepsPerMs : Nat := 120
/-- Steps of the nightly pass made in such a millisecond: a walk of 256 stays ends within 10 ms (R60). -/
def passStepsPerMs : Nat := 32
/-- The largest payload of a trunk telegram (R172). -/
def trunkPayloadMax : Nat := 120
/-- The largest payload of a branch telegram (R64). -/
def branchPayloadMax : Nat := 48

/-- FREE VALUE: the subject id of notice CLOCK_JUMP, from the rollover day number and the pass day. R183's table
gives the subject as "day" and does not say which day (log entry 20). -/
opaque clockJumpSubject : Int → Int → Nat

/-- FREE VALUE: whether a report entry that carries both trip flags is recorded with cause LEAKAGE (true) or
POST_OVERCURRENT (false), for the n-th such entry. R97 does not say (log entry 21). -/
opaque bothFlagsAreLeakage : Nat → Bool

end Sys2Proof.Config
end

