-- ==== Sys2Proof/Machine/State.lean ====
section
/-! DEFINITION. The state of the part as plain data: one structure for each block of 00_scope.md ("Block overview") with
every record, queue, list, counter, flag, timer and line the rules of spec/ give it, and `State.reset`, the part right
after a full clear. A timer is `some e` while it runs, where `e` is the value of the internal time base (in ms) at which
it runs out, and `none` while it is stopped. The members of an enumeration stand in the order in which the defining rule
lists them, which is their coding on the wire (R193). -/

namespace Sys2Proof.Machine

/-! ### Enumerations -/

/-- Reasons of a REFUSED answer in the order of R174, with the card refusal reasons that follow them (R193). -/
inductive Reason where
  | badValue | state | full | inUse | noCredit | duplicate | notWaiting | noBerth | mismatch | offline | blocked
  | setupOnly | clockUnset | stopped | journalFull | credit | lowStock | lowCredit | unknown | expired | noAccount
  deriving DecidableEq, Repr

/-- The part mode (R190). -/
inductive PartMode where
  | setup | run
  deriving DecidableEq, Repr

/-- The restart cause (R191, R192). -/
inductive RestartCause where
  | power | retentionLost | resetLine | command | clearCommand
  deriving DecidableEq, Repr

/-- Whether the part runs, is held by the RESET line, or is without supply (R191). -/
inductive PartCondition where
  | running | inReset | unpowered
  deriving DecidableEq, Repr

/-- The restart or full clear that an answered RESTART or CLEAR request has promised (R191, R192): asked while its answer
is still being sent, due once the answer has been sent. -/
inductive CommandStart where
  | none | restartAsked | restartDue | clearAsked | clearDue
  deriving DecidableEq, Repr

/-- The taken level of the FIRE or ESTOP input (R189). -/
inductive TakenLevel where
  | asserted | released | unknown
  deriving DecidableEq, Repr

/-- A stay's power class (R6). -/
inductive PowerClass where
  | none | a16 | a32 | a63 | a125
  deriving DecidableEq, Repr

inductive BerthState where
  | closed | free | held | occupied | clearing
  deriving DecidableEq, Repr

inductive StayState where
  | empty | expected | arrived | departing
  deriving DecidableEq, Repr

/-- The cause of an arrival (R17). -/
inductive ArrivalCause where
  | office | plug | gate
  deriving DecidableEq, Repr

/-- The source of an allocation request (R25). -/
inductive FitSource where
  | office | lead | resubmit
  deriving DecidableEq, Repr

/-- The cause of a CONTENDED notice (R33, R35). No one list of the rules orders the four: that of R35 stands behind the RECHECK of
R33, so that they are sent as 0 to 3: the model's choice (R193; log entry 19). -/
inductive ContendedCause where
  | recheck | cancelled | lapsed | assigned
  deriving DecidableEq, Repr

inductive AccountKind where
  | prepaid | credit
  deriving DecidableEq, Repr

inductive AccountState where
  | open | suspended | closed
  deriving DecidableEq, Repr

/-- The four services of the charge computation, in the order of the residues of R38. -/
inductive Service where
  | power | water | fuel | berth
  deriving DecidableEq, Repr

/-- The owner of a hold (R48). -/
inductive HoldOwner where
  | dispenser (d : DispenserId)
  | office
  deriving DecidableEq, Repr

inductive StationKind where
  | none | post | gateReader | dispenser | feederMonitor
  deriving DecidableEq, Repr

inductive StationState where
  | unpolled | unknown | online | offline
  deriving DecidableEq, Repr

/-- The line state of a branch (R62, R176). -/
inductive LineState where
  | off | polling | relayOnly
  deriving DecidableEq, Repr

inductive ExchangeKind where
  | poll | relay
  deriving DecidableEq, Repr

/-- The class of a relayed command code (R181). -/
inductive CommandClass where
  | query | config | actuate | service
  deriving DecidableEq, Repr

/-- The mode of the Relay Filter for one station kind and class (R181). -/
inductive FilterMode where
  | pass | passNote | blockNote | block
  deriving DecidableEq, Repr

/-- The cause of a RELAY_TIMEOUT notice (R182). -/
inductive RelayFailure where
  | badReply | noReply
  deriving DecidableEq, Repr

/-- The cause of a RELAY_DROPPED notice (R182). -/
inductive DropCause where
  | offline | disabled
  deriving DecidableEq, Repr

/-- The eleven outlet states, in the order of R87's table. -/
inductive OutletState where
  | vacant | plugged | queued | starting | on | grace | shed | closing | tripped | locked | resync
  deriving DecidableEq, Repr

/-- Why an outlet stands PLUGGED (R84). -/
inductive PlugReason where
  | noStay | credit | noClass | closingPending
  deriving DecidableEq, Repr

/-- Where a CLOSING outlet goes when it is confirmed (R84). -/
inductive CloseTarget where
  | vacant | plugged | shed | queued | tripped | locked
  deriving DecidableEq, Repr

inductive TripCause where
  | inrush | overcurrent | leakage | postOvercurrent
  deriving DecidableEq, Repr

inductive FeederState where
  | normal | shedding | shed | restoring | dead
  deriving DecidableEq, Repr

inductive ShedCause where
  | undervoltage | overload | office
  deriving DecidableEq, Repr

/-- The causes of a FEEDER_STATE notice (R111). -/
inductive FeederCause where
  | undervoltage | overload | office | recovery | breakerOpen | breakerClosed | programEnd | restart
  deriving DecidableEq, Repr

inductive Breaker where
  | closed | open
  deriving DecidableEq, Repr

inductive TapState where
  | closed | open | leak | locked
  deriving DecidableEq, Repr

inductive DispenserState where
  | closed | idle | authorised | delivering | settling | stopped
  deriving DecidableEq, Repr

inductive CredentialKind where
  | guest | crew | staff | contractor
  deriving DecidableEq, Repr

inductive CredentialState where
  | active | suspended | exitOnly | expired
  deriving DecidableEq, Repr

inductive Lock where
  | locked | unlocked | released
  deriving DecidableEq, Repr

inductive DoorState where
  | closed | open | unknown
  deriving DecidableEq, Repr

inductive Direction where
  | in | out
  deriving DecidableEq, Repr

/-- Reasons of an entry denial, in the order of their display codes 4 to 11 (R159). -/
inductive DenyReason where
  | unknown | expired | notPermitted | suspended | curfew | passback | full | busy
  deriving DecidableEq, Repr

/-- The result of a passage log record (R170). -/
inductive PassageResult where
  | admitted
  | denied (r : DenyReason)
  | void
  | exit
  | released
  deriving DecidableEq, Repr

/-- The cause of a release of the gates (R168). -/
inductive ReleaseCause where
  | fire | office
  deriving DecidableEq, Repr

inductive Polarity where
  | activeHigh | activeLow
  deriving DecidableEq, Repr

/-- The record tables in the order of R178. -/
inductive TableName where
  | marina | pontoon | berth | stay | allocation | account | hold | tariff | branch | station | filter | outlet | start
  | program | tap | tank | dispenser | credential | gate | passageLog | signal
  deriving DecidableEq, Repr

/-! ### Trunk Port and Management Handler -/

/-- What a notice says: its kind with its subject, values and payload (R183, R184). -/
inductive Note where
  | stayArrived (stay : StayId) (berth : BerthId) (cause : ArrivalCause)
  | stayLapsed (stay : StayId) (berth : Option BerthId) (arrival : Nat)
  | overstay (stay : StayId) (berth : Option BerthId) (departure : Nat)
  | finalReadEstimated (berth : BerthId) (item : ReadItem)
  | departed (stay : StayId) (berth : BerthId) (account : AccountId) (estimated : Nat)
  | stayPlaced (stay : StayId) (berth : BerthId) (score : Nat) (source : FitSource)
  | noFit (stay : StayId) (source : FitSource) (attempt freeSeen : Nat)
  | contended (stay : StayId) (cause : ContendedCause) (berth : Option BerthId) (condition : Nat)
  | accountExhausted (account : AccountId) (available : Int)
  | accountRestored (account : AccountId) (available : Int)
  | accountLow (account : AccountId) (set : Bool) (available : Int)
  | balanceSaturated (account : AccountId) (high : Bool) (amount : Nat)
  | holdExpired (slot : HoldSlot) (account : AccountId) (amount : Nat)
  | clockJump (subject : Nat) (rolloverDay passDay : Int)
  | rolloverDone (passDay : Int) (charged total : Nat)
  | stationOnline (station : StationId) (branch : BranchId) (address : Nat)
  | stationOffline (station : StationId) (branch : BranchId) (address : Nat) (former : StationState)
  | stationStarted (station : StationId)
  | eventGap (station : StationId) (last skipped : Nat)
  | relayAnswer (station : StationId) (code status tag : Nat) (payload : List Byte)
  | relayTimeout (station : StationId) (code tag : Nat) (cause : RelayFailure)
  | relayDropped (station : StationId) (code tag : Nat) (cause : DropCause)
  | relayNoted (station : StationId) (code tag : Nat) (cls : CommandClass)
  | relayBlocked (station : StationId) (code tag : Nat) (cls : CommandClass)
  | outletTripped (outlet : OutletId) (cause : TripCause) (current : Nat) (locked : Bool)
  | meterJump (item : ReadItem) (old counter : Counter)
  | feederState (pontoon : PontoonId) (state : FeederState) (cause : FeederCause) (admitted : ClassSet)
  | tapLeak (tap : TapId) (berth : Option BerthId) (delta : Nat)
  | stockLow (grade : GradeId) (stock threshold : Nat)
  | stockNegative (grade : GradeId) (amount : Nat)
  | saleRefused (dispenser : DispenserId) (reason : Reason) (number : CardNumber)
  | saleLapsed (dispenser : DispenserId) (account : AccountId) (preset : Nat)
  | fuelOverrun (dispenser : DispenserId) (preset delivered : Nat)
  | saleSettled (dispenser : DispenserId) (sale volume amount : Nat)
  | fuelDiscrepancy (dispenser : DispenserId) (watch reported : Nat) (sale : Option Nat)
  | fuelEstop (asserted : Bool)
  | curfewDenied (gate : PontoonId) (number : CardNumber) (kind : CredentialKind)
  | curfewEntry (gate : PontoonId) (number : CardNumber) (kind : CredentialKind)
  | zoneCorrected (slot : CredentialSlot) (number : CardNumber) (old new : PontoonId)
  | gateForced (gate : PontoonId) (headcount : Nat)
  | gateHeldOpen (gate : PontoonId) (lock : Lock)
  | gatesReleased (cause : ReleaseCause)
  | gatesSecured (cause : ReleaseCause)
  | clockUnset
  | restarted (cause : RestartCause)
  deriving DecidableEq, Repr

/-- A notice in the upward queue, with the marina clock when it was raised, 0 while unset (R183). -/
structure Notice where
  note : Note
  time : Nat
  deriving DecidableEq, Repr

/-- The answer code with what the answer carries (R174). -/
inductive AnswerBody where
  | done (payload : List Byte)
  | queued
  | refused (reason : Reason) (detail : Nat)
  | busy
  | unknown
  deriving DecidableEq, Repr

/-- An ANSWER telegram: the node address it carries, the tag it echoes, and its body (R172). -/
structure Answer where
  node : Nat
  tag  : Nat
  body : AnswerBody
  deriving DecidableEq, Repr

/-- The last request taken, with the whole answer it got (R173). -/
structure KeptRequest where
  tag    : Nat
  code   : Nat
  length : Nat
  check  : Nat
  answer : Answer
  deriving DecidableEq, Repr

/-- The read cursor (R178). -/
structure Cursor where
  table    : TableName
  position : Nat
  count    : Nat
  deriving DecidableEq, Repr

/-- The Trunk Port and Management Handler: the node address in force, the answers owed and not yet sent in full (oldest
first), the kept request, the read cursor, the part mode, the restart cause, the start a request has promised, the upward
queue and its LOST flag (R172 to R184, R190, R191). -/
structure Trunk where
  node         : Nat
  owed         : List Answer
  kept         : Option KeptRequest
  cursor       : Option Cursor
  mode         : PartMode
  cause        : RestartCause
  commandStart : CommandStart
  notices      : List Notice
  lost         : Bool
  deriving DecidableEq, Repr

/-- The marina settings record (R177). -/
structure MarinaSettings where
  node          : Nat
  lead          : Nat
  keel          : Nat
  exitGrace     : Nat
  deglitch      : Nat
  tripCount     : Nat
  graceTime     : Nat
  leakThreshold : Nat
  staffAccount  : Option AccountId
  deriving DecidableEq, Repr

/-! ### Marina Clock, signal lines, inputs, retention -/

/-- The Marina Clock (R185); `nextAdvance` is the time-base value at which the next second of the clock falls. -/
structure Clock where
  value       : Nat
  isSet       : Bool
  rollover    : Nat
  unsetNoted  : Bool
  nextAdvance : Nat
  deriving DecidableEq, Repr

/-- One signal record (R188); bit n of the mask is the n-th source of R188's table. -/
structure Signal where
  mask     : BitVec 7
  enable   : Bool
  polarity : Polarity
  stretch  : Nat
  asserted : Bool
  timer    : Option Nat
  deriving DecidableEq, Repr

/-- A deglitched input, FIRE or ESTOP (R189): the level of its pin, the last sample, the taken level. -/
structure Input where
  pinLow     : Bool
  lastSample : Option Bool
  taken      : TakenLevel
  deriving DecidableEq, Repr

/-- The discrete lines: the two signal records and the two deglitched inputs (R188, R189). -/
structure Lines where
  signals : Vector Signal 2
  fire    : Input
  estop   : Input
  deriving DecidableEq, Repr

/-- The part as a whole: whether it runs, its internal time base in ms, whether the retained tables and the stored check
value agree (R191), the SETUP strap as last sampled (R190), whether the RESET input is low (R191), and the model's own count of
free values drawn. -/
structure Part where
  condition       : PartCondition
  timeBase        : Nat
  retentionAgrees : Bool
  setupStrapLow   : Bool
  resetLow        : Bool
  draws           : Nat
  deriving DecidableEq, Repr

/-! ### Berth Register and Fit Engine -/

/-- The settings part of a pontoon record (R1). -/
structure PontoonSettings where
  gatePresent    : Bool
  capacity       : Nat
  reserve        : Nat
  commitLimit    : Nat
  peopleCapacity : Nat
  passbackStrict : Bool
  curfewStart    : Nat
  curfewEnd      : Nat
  curfewMode     : Nat
  vf             : Nat
  vr             : Nat
  deriving DecidableEq, Repr

/-- An item of an outstanding set with the end of its final-read timer (R20). -/
structure OutstandingRead where
  item  : ReadItem
  endAt : Nat
  deriving DecidableEq, Repr

/-- A berth record (R3). -/
structure Berth where
  pontoon       : PontoonId
  maxLoa        : Nat
  maxBeam       : Nat
  depth         : Nat
  outlets       : List OutletId
  tap           : Option TapId
  state         : BerthState
  currentStay   : Option StayId
  departingStay : Option StayId
  outstanding   : List OutstandingRead
  estimated     : Nat
  deriving DecidableEq, Repr

/-- The settings part of a stay record (R6). -/
structure StaySettings where
  loa        : Nat
  beam       : Nat
  draft      : Nat
  power      : PowerClass
  priority   : PriorityClass
  allowance  : Nat
  account    : AccountId
  arrival    : Nat
  departure  : Nat
  holdGrace  : Nat
  prefs      : PontoonSet
  autoArrive : Bool
  deriving DecidableEq, Repr

/-- A stay record (R6). `lapseMet` and `overstayMet` say that a clock event has met the deadline of R16 or R19 and that
the step it calls for has not been taken yet; `leadMet` is the least allocation lead, in hours, for which a clock event has met
the deadline of R28, if one has (R185: a deadline already met stays met; log entries 8 and 34). -/
structure Stay where
  settings      : StaySettings
  state         : StayState
  berth         : Option BerthId
  unplaced      : Bool
  overstayNoted : Bool
  allowanceLeft : Nat
  lastNight     : Option Int
  lapseMet      : Bool
  overstayMet   : Bool
  leadMet       : Option Nat
  deriving DecidableEq, Repr

/-- The Berth Register: pontoon settings, berth and stay records, the arrivals list (R1 to R8). -/
structure Register where
  pontoons : Vector PontoonSettings 12
  berths   : Vector Berth 240
  stays    : Vector Stay 256
  arrivals : List StayId
  deriving DecidableEq, Repr

/-- The vessel values that the eligibility check tests (R12, R30). -/
structure FitValues where
  loa   : Nat
  beam  : Nat
  draft : Nat
  power : PowerClass
  prefs : PontoonSet
  deriving DecidableEq, Repr

/-- An entry of the allocation request queue (R25). -/
structure FitEntry where
  stay   : StayId
  source : FitSource
  deriving DecidableEq, Repr

/-- A scan in flight (R25, R30); its subject is the stay of the queue's head. `walked` is set after the step for berth 239,
when the attempt is complete. -/
structure Scan where
  attempt  : Nat
  position : BerthId
  walked   : Bool
  captured : FitValues
  best     : Option (BerthId × Nat)
  freeSeen : Nat
  deriving DecidableEq, Repr

/-- The Fit Engine (R25). -/
structure Engine where
  queue     : List FitEntry
  scan      : Option Scan
  leadMarks : Vector Bool 256
  resubmit  : Nat
  deriving DecidableEq, Repr

/-! ### Account and Tariff Unit -/

/-- An account record (R38). -/
structure Account where
  kind          : AccountKind
  creditLimit   : Nat
  adjustment    : Int
  lowThreshold  : Nat
  restoreMargin : Nat
  state         : AccountState
  balance       : Int
  heldTotal     : Nat
  exhausted     : Bool
  low           : Bool
  saturated     : Bool
  residuePower  : Nat
  residueWater  : Nat
  residueFuel   : Nat
  residueBerth  : Nat
  deriving DecidableEq, Repr

/-- A filled hold slot (R48). `expiryMet` says that a clock event has met the expiry and that the expiry has not been
taken yet (R51, R185). -/
structure HoldRecord where
  account   : AccountId
  amount    : Nat
  owner     : HoldOwner
  placed    : Nat
  expiry    : Option Nat
  expiryMet : Bool
  deriving DecidableEq, Repr

/-- The tariff record (R53). -/
structure Tariff where
  powerDay   : Nat
  powerNight : Nat
  water      : Nat
  fuel0      : Nat
  fuel1      : Nat
  berth      : Nat
  dayStart   : Nat
  dayEnd     : Nat
  deriving DecidableEq, Repr

/-- The nightly pass in flight (R60). `walked` is set after the step for stay 255. -/
structure NightPass where
  day      : Int
  position : StayId
  walked   : Bool
  charged  : Nat
  total    : Nat
  deriving DecidableEq, Repr

/-- The Account and Tariff Unit (R38 to R61). -/
structure Ledger where
  accounts    : Vector Account 512
  holds       : Vector (Option HoldRecord) 16
  tariff      : Tariff
  rolloverDay : Option Int
  pass        : Option NightPass
  deriving DecidableEq, Repr

/-! ### Branch ports -/

/-- An outlet's entry in a post image: switch and limit code (R72). -/
structure OutletImage where
  on   : Bool
  code : Nat
  deriving DecidableEq, Repr

/-- A station's image (R72). The fields of every kind stand side by side; a POLL carries those of the station's kind. -/
structure Image where
  outlets     : Vector OutletImage 4
  taps        : Vector Bool 2
  postDisplay : Nat
  lock        : Lock
  gateDisplay : Nat
  enable      : Bool
  preset      : Nat
  price       : Nat
  stop        : Bool
  deriving DecidableEq, Repr

/-- A station record (R67). The model's own field `leaving` holds the branch and address of a station whose disabling waits for the
end of the exchange in flight with it (R68; log entry 16). -/
structure Station where
  kind        : StationKind
  branch      : BranchId
  address     : Nat
  enabled     : Bool
  outletCount : Option Nat
  tapCount    : Option Nat
  pontoon     : Option PontoonId
  state       : StationState
  miss        : Nat
  skip        : Nat
  lastTaken   : Option (Fin 16)
  startNoted  : Bool
  image       : Image
  leaving     : Option (BranchId × Nat)
  deriving DecidableEq, Repr

/-- An entry of a relay-down queue (R79). -/
structure RelayEntry where
  station : StationId
  code    : Nat
  payload : List Byte
  tag     : Nat
  deriving DecidableEq, Repr

/-- The exchange in flight on a branch (R65): the telegram sent, the end of the answer timeout, whether a reply has begun,
and whether the reply is to be discarded unjudged because the station was disabled meanwhile (R68). -/
structure Exchange where
  station    : StationId
  kind       : ExchangeKind
  sent       : List Byte
  timeoutAt  : Nat
  replyBegun : Bool
  discard    : Bool
  deriving DecidableEq, Repr

/-- A branch record (R62) with the attention list, the relay-down queue and the exchange of its port (R65, R77, R79).
`activeRate` is the rate code in effect, which a write changes when no exchange is in flight (R63). `ringPosition` is the
address of the member whose ring slot comes next; `passServed` says that a member has been polled in the present pass;
`idleUntil` is the end of the idle time that follows a pass in which every member was passed over (R71). -/
structure Branch where
  rateCode      : Nat
  missLimit     : Nat
  answerTimeout : Nat
  ratio         : Nat
  activeRate    : Nat
  ringPosition  : Option Nat
  passServed    : Bool
  slotCount     : Nat
  relayMark     : Bool
  attention     : List StationId
  relays        : List RelayEntry
  exchange      : Option Exchange
  idleUntil     : Option Nat
  deriving DecidableEq, Repr

/-- A filter record: the mode of each command class (R181). -/
structure FilterRecord where
  query   : FilterMode
  config  : FilterMode
  actuate : FilterMode
  service : FilterMode
  deriving DecidableEq, Repr

/-- The Branch Ports and the Relay Filter. `waterShown` is the model's own: the posts whose display code the Water Service
has written in the present event, so that the order of R72 holds; it is empty between events. -/
structure Link where
  branches   : Vector Branch 6
  stations   : Vector Station 128
  filter     : Vector FilterRecord 4
  waterShown : List StationId
  deriving DecidableEq, Repr

/-! ### Shore Power Unit -/

/-- An outlet record (R84). -/
structure Outlet where
  post         : Option StationId
  socket       : Fin 4
  rating       : Nat
  berth        : Option BerthId
  state        : OutletState
  reason       : Option PlugReason
  plugTaken    : Bool
  deglitch     : Nat
  granted      : Nat
  grantPontoon : Option PontoonId
  limited      : Bool
  target       : Option CloseTarget
  billing      : Option AccountId
  startTimer   : Option Nat
  graceTimer   : Option Nat
  overLimit    : Nat
  lastClear    : Option Nat
  lastTrip     : Option TripCause
  baseline     : Option Counter
  finalOwed    : Bool
  estimated    : Bool
  lastCurrent  : Nat
  deriving DecidableEq, Repr

/-- The feeder part of a pontoon record's lifecycle part (R111). -/
structure Feeder where
  state        : FeederState
  admitted     : ClassSet
  shedCause    : Option ShedCause
  position     : Option (Fin 8)
  stepTimer    : Option Nat
  lowCount     : Nat
  overCount    : Nat
  healthyCount : Nat
  lastVoltage  : Nat
  lastCurrent  : Nat
  lastBreaker  : Option Breaker
  deriving DecidableEq, Repr

/-- A start record with the pontoon's start slot, start queue and upgrade list (R86, R93, R100). -/
structure StartRecord where
  startTime   : Nat
  startFactor : Nat
  slot        : Option OutletId
  queue       : List OutletId
  upgrades    : List OutletId
  deriving DecidableEq, Repr

/-- One step of a load program (R119). -/
structure ProgramStep where
  delay   : Nat
  mask    : ClassSet
  endFlag : Bool
  deriving DecidableEq, Repr

/-- The Shore Power Unit (R84 to R123); program 0 is SHED, program 1 is RESTORE. -/
structure Power where
  outlets  : Vector Outlet 192
  feeders  : Vector Feeder 12
  starts   : Vector StartRecord 12
  programs : Vector (Vector ProgramStep 8) 2
  deriving DecidableEq, Repr

/-! ### Water Service -/

/-- A tap record (R124). -/
structure Tap where
  post          : Option StationId
  tapIndex      : Fin 2
  maxRun        : Nat
  berth         : Option BerthId
  state         : TapState
  runTimer      : Option Nat
  baseline      : Option Counter
  leakCount     : Nat
  billing       : Option AccountId
  allowanceStay : Option StayId
  finalOwed     : Bool
  estimated     : Bool
  lastDelta     : Nat
  deriving DecidableEq, Repr

/-- The Water Service (R124). -/
structure Water where
  taps : Vector Tap 128
  deriving DecidableEq, Repr

/-! ### Fuel Dock Controller -/

/-- A tank record (R133). -/
structure Tank where
  reserve  : Nat
  lowStock : Nat
  stock    : Nat
  lowFlag  : Bool
  deriving DecidableEq, Repr

/-- A current sale (R135). -/
structure Sale where
  account    : AccountId
  credential : Option (CredentialSlot × CardNumber)
  price      : Nat
  preset     : Nat
  hold       : Nat
  highest    : Nat
  staff      : Bool
  overrun    : Bool
  stopped    : Bool
  estimated  : Bool
  clamped    : Bool
  authTime   : Nat
  deriving DecidableEq, Repr

/-- A watch (R149). -/
structure Watch where
  volume : Nat
  sale   : Option Nat
  deriving DecidableEq, Repr

/-- A dispenser record (R135). -/
structure Dispenser where
  station       : Option StationId
  grade         : GradeId
  maxPreset     : Nat
  tolerance     : Nat
  nozzleTimeout : Nat
  state         : DispenserState
  sale          : Option Sale
  enableSeen    : Bool
  nozzleTimer   : Option Nat
  settleTimer   : Option Nat
  watch         : Option Watch
  deriving DecidableEq, Repr

/-- A sale journal record (R152). -/
structure SaleRecord where
  number     : Nat
  dispenser  : DispenserId
  grade      : GradeId
  account    : AccountId
  credential : Option (CredentialSlot × CardNumber)
  volume     : Nat
  price      : Nat
  amount     : Nat
  authTime   : Nat
  settleTime : Nat
  staff      : Bool
  overrun    : Bool
  stopped    : Bool
  estimated  : Bool
  clamped    : Bool
  deriving DecidableEq, Repr

/-- The Fuel Dock Controller (R133 to R154); the journal's oldest record stands first. -/
structure Fuel where
  tanks      : Vector Tank 2
  dispensers : Vector Dispenser 4
  journal    : List SaleRecord
  nextSale   : Nat
  deriving DecidableEq, Repr

/-! ### Gate Controller -/

/-- A credential record (R155). `expiryMet` says that a clock event has met the exit expiry and that the expiry has not
been taken yet (R157, R185). -/
structure Credential where
  number     : CardNumber
  kind       : CredentialKind
  stay       : Option StayId
  account    : Option AccountId
  pontoons   : PontoonSet
  validFrom  : Nat
  validTo    : Nat
  state      : CredentialState
  zone       : Option PontoonId
  exitExpiry : Option Nat
  expiryMet  : Bool
  deriving DecidableEq, Repr

/-- A pending passage (R162, R163). -/
structure Passage where
  credential : Option (CredentialSlot × CardNumber)
  direction  : Direction
  grantTime  : Nat
  deriving DecidableEq, Repr

/-- A gate record (R158) with its pontoon's headcount and UNRELIABLE flag (R165, R168). -/
structure Gate where
  reader     : Option StationId
  unlockTime : Nat
  heldLimit  : Nat
  lock       : Lock
  unlockEnd  : Option Nat
  passages   : List Passage
  door       : DoorState
  heldTimer  : Option Nat
  forced     : Bool
  display    : Nat
  headcount  : Nat
  unreliable : Bool
  deriving DecidableEq, Repr

/-- A passage log record (R170). -/
structure PassageRecord where
  sequence  : Nat
  time      : Nat
  gate      : PontoonId
  number    : Option CardNumber
  direction : Direction
  result    : PassageResult
  headcount : Nat
  deriving DecidableEq, Repr

/-- The Gate Controller (R155 to R171). -/
structure Access where
  credentials   : Vector (Option Credential) 1024
  gates         : Vector Gate 12
  officeRelease : Bool
  log           : Vector (Option PassageRecord) 128
  nextPosition  : Fin 128
  nextSequence  : Nat
  deriving DecidableEq, Repr

end Sys2Proof.Machine

namespace Sys2Proof.Machine

/-! ### The whole state -/

/-- The state of the part: the queue of waiting commands and the blocks. -/
structure State where
  pending  : List Instr
  part     : Part
  trunk    : Trunk
  settings : MarinaSettings
  clock    : Clock
  register : Register
  engine   : Engine
  ledger   : Ledger
  link     : Link
  power    : Power
  water    : Water
  fuel     : Fuel
  access   : Access
  lines    : Lines
  deriving DecidableEq, Repr

/-- The faults of the part. It has none: spec/ names no condition that stops the part, and every command ends in a next
state. -/
inductive Fault where
  deriving DecidableEq, Repr

/-- The refusals of the model. -/
inductive Refusal where
  /-- Raised by `exec` alone, for a command without a meaning yet; no arm of `exec` raises it now. Safe: the run stops. -/
  | notModelled (mnemonic : String)
  deriving DecidableEq, Repr

/-! ### The values after a full clear -/

/-- Full-clear values of the marina settings (R177). -/
def MarinaSettings.fullClear : MarinaSettings :=
  { node := 1, lead := 12, keel := 3, exitGrace := 30, deglitch := 2, tripCount := 2, graceTime := 15,
    leakThreshold := 5, staffAccount := none }

/-- Full-clear values of the clock (R185); its next advance is not awaited while the clock is unset. -/
def Clock.fullClear : Clock :=
  { value := 0, isSet := false, rollover := 43200, unsetNoted := false, nextAdvance := 0 }

/-- Full-clear values of a pontoon's settings (R1, R110, R158). -/
def PontoonSettings.fullClear : PontoonSettings :=
  { gatePresent := false, capacity := 0, reserve := 0, commitLimit := 0, peopleCapacity := 255, passbackStrict := false,
    curfewStart := 0, curfewEnd := 0, curfewMode := 0, vf := 207, vr := 216 }

/-- Full-clear values of a berth (R3). -/
def Berth.fullClear : Berth :=
  { pontoon := 0, maxLoa := 0, maxBeam := 0, depth := 0, outlets := [], tap := none, state := .free, currentStay := none,
    departingStay := none, outstanding := [], estimated := 0 }

/-- An EMPTY stay has every field cleared (R6). -/
def Stay.emptied : Stay :=
  { settings := { loa := 0, beam := 0, draft := 0, power := .none, priority := 0, allowance := 0, account := 0,
                  arrival := 0, departure := 0, holdGrace := 0, prefs := 0, autoArrive := false },
    state := .empty, berth := none, unplaced := false, overstayNoted := false, allowanceLeft := 0, lastNight := none,
    lapseMet := false, overstayMet := false, leadMet := none }

/-- The Fit Engine after a restart and after a full clear (R25, R37). -/
def Engine.fullClear : Engine :=
  { queue := [], scan := none, leadMarks := Vector.replicate 256 false, resubmit := 0 }

/-- Full-clear values of an account (R38). -/
def Account.fullClear : Account :=
  { kind := .prepaid, creditLimit := 0, adjustment := 0, lowThreshold := 0, restoreMargin := 0, state := .closed,
    balance := 0, heldTotal := 0, exhausted := false, low := false, saturated := false, residuePower := 0,
    residueWater := 0, residueFuel := 0, residueBerth := 0 }

/-- Full-clear values of the tariff record (R53). -/
def Tariff.fullClear : Tariff :=
  { powerDay := 0, powerNight := 0, water := 0, fuel0 := 0, fuel1 := 0, berth := 0, dayStart := 25200, dayEnd := 82800 }

/-- The default image (R72). -/
def Image.default : Image :=
  { outlets := Vector.replicate 4 { on := false, code := 0 }, taps := Vector.replicate 2 false, postDisplay := 0,
    lock := .locked, gateDisplay := 0, enable := false, preset := 0, price := 0, stop := false }

/-- Full-clear values of a station record (R67); branch and address are the model's choice (log entry 3). -/
def Station.fullClear : Station :=
  { kind := .none, branch := 0, address := 1, enabled := false, outletCount := none, tapCount := none, pontoon := none,
    state := .unpolled, miss := 0, skip := 0, lastTaken := none, startNoted := false, image := Image.default,
    leaving := none }

/-- Full-clear values of a branch record (R62). -/
def Branch.fullClear : Branch :=
  { rateCode := 0, missLimit := 3, answerTimeout := 10, ratio := 1, activeRate := 0, ringPosition := none,
    passServed := false, slotCount := 0, relayMark := false, attention := [], relays := [], exchange := none,
    idleUntil := none }

/-- Full-clear values of a filter record (R181). -/
def FilterRecord.fullClear : FilterRecord :=
  { query := .pass, config := .passNote, actuate := .blockNote, service := .block }

/-- Full-clear values of an outlet (R84). -/
def Outlet.fullClear : Outlet :=
  { post := none, socket := 0, rating := 16, berth := none, state := .vacant, reason := none, plugTaken := false,
    deglitch := 0, granted := 0, grantPontoon := none, limited := false, target := none, billing := none,
    startTimer := none, graceTimer := none, overLimit := 0, lastClear := none, lastTrip := none, baseline := none,
    finalOwed := false, estimated := false, lastCurrent := 0 }

/-- Full-clear values of a feeder (R111). -/
def Feeder.fullClear : Feeder :=
  { state := .normal, admitted := 15, shedCause := none, position := none, stepTimer := none, lowCount := 0, overCount := 0,
    healthyCount := 0, lastVoltage := 0, lastCurrent := 0, lastBreaker := none }

/-- Full-clear values of a start record (R86). -/
def StartRecord.fullClear : StartRecord :=
  { startTime := 5, startFactor := 200, slot := none, queue := [], upgrades := [] }

/-- A program step with d0, an empty mask and END clear (R119). -/
def ProgramStep.blank : ProgramStep := { delay := 0, mask := 0, endFlag := false }

/-- The default SHED program (R119). -/
def shedDefault : Vector ProgramStep 8 :=
  #v[{ delay := 0, mask := 0b0111, endFlag := false }, { delay := 3, mask := 0b0011, endFlag := false },
     { delay := 4, mask := 0b0001, endFlag := true }, .blank, .blank, .blank, .blank, .blank]

/-- The default RESTORE program (R119). -/
def restoreDefault : Vector ProgramStep 8 :=
  #v[{ delay := 3, mask := 0b0001, endFlag := false }, { delay := 5, mask := 0b0011, endFlag := false },
     { delay := 5, mask := 0b0111, endFlag := false }, { delay := 5, mask := 0b1111, endFlag := true },
     .blank, .blank, .blank, .blank]

/-- Full-clear values of a tap (R124). -/
def Tap.fullClear : Tap :=
  { post := none, tapIndex := 0, maxRun := 30, berth := none, state := .closed, runTimer := none, baseline := none,
    leakCount := 0, billing := none, allowanceStay := none, finalOwed := false, estimated := false, lastDelta := 0 }

/-- Full-clear values of a tank (R133). -/
def Tank.fullClear : Tank := { reserve := 0, lowStock := 0, stock := 0, lowFlag := false }

/-- Full-clear values of a dispenser (R135). -/
def Dispenser.fullClear : Dispenser :=
  { station := none, grade := 0, maxPreset := 10000, tolerance := 20, nozzleTimeout := 120, state := .closed, sale := none,
    enableSeen := false, nozzleTimer := none, settleTimer := none, watch := none }

/-- Full-clear values of a gate (R158, R171). The door state last taken is UNKNOWN: the model's choice (log entry 44). -/
def Gate.fullClear : Gate :=
  { reader := none, unlockTime := 5, heldLimit := 60, lock := .locked, unlockEnd := none, passages := [], door := .unknown,
    heldTimer := none, forced := false, display := 0, headcount := 0, unreliable := false }

/-- Full-clear values of a signal record (R188). -/
def Signal.fullClear : Signal :=
  { mask := 0, enable := false, polarity := .activeHigh, stretch := 0, asserted := false, timer := none }

/-- An input right after a start: its taken level is UNKNOWN and sampling begins again (R189). -/
def Input.atStart (pinLow : Bool) : Input := { pinLow := pinLow, lastSample := none, taken := .unknown }

/-- The Trunk Port right after a start with this node address, mode and cause: no answer owed, no request kept, no cursor,
RESTARTED alone in the upward queue with this time, LOST clear (R173, R178, R183). That the answers still owed are dropped, a BUSY
behind the answer to RESTART or CLEAR among them, is the model's choice (log entry 56). -/
def Trunk.atStart (node : Nat) (mode : PartMode) (cause : RestartCause) (time : Nat) : Trunk :=
  { node := node, owed := [], kept := none, cursor := none, mode := mode, cause := cause, commandStart := .none,
    notices := [{ note := .restarted cause, time := time }], lost := false }

/-- The part right after reset: a full clear with cause RETENTION_LOST, the start that a part takes which has never been
loaded (R191, R192), with the SETUP strap open, so in RUN mode (log entry 1). -/
def State.reset : State :=
  { pending  := []
    part     := { condition := .running, timeBase := 0, retentionAgrees := true, setupStrapLow := false, resetLow := false,
                  draws := 0 }
    trunk    := Trunk.atStart 1 .run .retentionLost 0
    settings := MarinaSettings.fullClear
    clock    := Clock.fullClear
    register := { pontoons := Vector.replicate 12 PontoonSettings.fullClear, berths := Vector.replicate 240 Berth.fullClear,
                  stays := Vector.replicate 256 Stay.emptied, arrivals := [] }
    engine   := Engine.fullClear
    ledger   := { accounts := Vector.replicate 512 Account.fullClear, holds := Vector.replicate 16 none,
                  tariff := Tariff.fullClear, rolloverDay := none, pass := none }
    link     := { branches := Vector.replicate 6 Branch.fullClear, stations := Vector.replicate 128 Station.fullClear,
                  filter := Vector.replicate 4 FilterRecord.fullClear, waterShown := [] }
    power    := { outlets := Vector.replicate 192 Outlet.fullClear, feeders := Vector.replicate 12 Feeder.fullClear,
                  starts := Vector.replicate 12 StartRecord.fullClear, programs := #v[shedDefault, restoreDefault] }
    water    := { taps := Vector.replicate 128 Tap.fullClear }
    fuel     := { tanks := Vector.replicate 2 Tank.fullClear, dispensers := Vector.replicate 4 Dispenser.fullClear,
                  journal := [], nextSale := 0 }
    access   := { credentials := Vector.replicate 1024 none, gates := Vector.replicate 12 Gate.fullClear,
                  officeRelease := false, log := Vector.replicate 128 none, nextPosition := 0, nextSequence := 0 }
    lines    := { signals := Vector.replicate 2 Signal.fullClear, fire := Input.atStart false, estop := Input.atStart false } }

end Sys2Proof.Machine
end

