-- ==== Sys2Proof/Machine/Ops.lean ====
section
/-! DEFINITION. The named operations that every block shares: reading and writing one record, the internal time base, the
upward queue, the note of an unset clock, the images of the stations and the attention lists. The part has no exception
entry: what it has to report is a notice, a flag or a signal line. -/

namespace Sys2Proof.Machine

/-! ### One home for every record -/

namespace State

def stay (s : State) (i : StayId) : Stay := s.register.stays[i]
def setStay (s : State) (i : StayId) (x : Stay) : State :=
  { s with register := { s.register with stays := s.register.stays.set i x } }

def berth (s : State) (i : BerthId) : Berth := s.register.berths[i]
def setBerth (s : State) (i : BerthId) (x : Berth) : State :=
  { s with register := { s.register with berths := s.register.berths.set i x } }

def pontoon (s : State) (i : PontoonId) : PontoonSettings := s.register.pontoons[i]
def setPontoon (s : State) (i : PontoonId) (x : PontoonSettings) : State :=
  { s with register := { s.register with pontoons := s.register.pontoons.set i x } }

def arrivals (s : State) : List StayId := s.register.arrivals
def setArrivals (s : State) (l : List StayId) : State :=
  { s with register := { s.register with arrivals := l } }

def setEngine (s : State) (e : Engine) : State := { s with engine := e }

def account (s : State) (i : AccountId) : Account := s.ledger.accounts[i]
def setAccount (s : State) (i : AccountId) (x : Account) : State :=
  { s with ledger := { s.ledger with accounts := s.ledger.accounts.set i x } }

def holdSlot (s : State) (i : HoldSlot) : Option HoldRecord := s.ledger.holds[i]
def setHoldSlot (s : State) (i : HoldSlot) (x : Option HoldRecord) : State :=
  { s with ledger := { s.ledger with holds := s.ledger.holds.set i x } }

def branch (s : State) (i : BranchId) : Branch := s.link.branches[i]
def setBranch (s : State) (i : BranchId) (x : Branch) : State :=
  { s with link := { s.link with branches := s.link.branches.set i x } }

def station (s : State) (i : StationId) : Station := s.link.stations[i]
def setStation (s : State) (i : StationId) (x : Station) : State :=
  { s with link := { s.link with stations := s.link.stations.set i x } }

def outlet (s : State) (i : OutletId) : Outlet := s.power.outlets[i]
def setOutlet (s : State) (i : OutletId) (x : Outlet) : State :=
  { s with power := { s.power with outlets := s.power.outlets.set i x } }

def feeder (s : State) (i : PontoonId) : Feeder := s.power.feeders[i]
def setFeeder (s : State) (i : PontoonId) (x : Feeder) : State :=
  { s with power := { s.power with feeders := s.power.feeders.set i x } }

def start (s : State) (i : PontoonId) : StartRecord := s.power.starts[i]
def setStart (s : State) (i : PontoonId) (x : StartRecord) : State :=
  { s with power := { s.power with starts := s.power.starts.set i x } }

def tap (s : State) (i : TapId) : Tap := s.water.taps[i]
def setTap (s : State) (i : TapId) (x : Tap) : State :=
  { s with water := { s.water with taps := s.water.taps.set i x } }

def tank (s : State) (i : GradeId) : Tank := s.fuel.tanks[i]
def setTank (s : State) (i : GradeId) (x : Tank) : State :=
  { s with fuel := { s.fuel with tanks := s.fuel.tanks.set i x } }

def dispenser (s : State) (i : DispenserId) : Dispenser := s.fuel.dispensers[i]
def setDispenser (s : State) (i : DispenserId) (x : Dispenser) : State :=
  { s with fuel := { s.fuel with dispensers := s.fuel.dispensers.set i x } }

def gate (s : State) (i : PontoonId) : Gate := s.access.gates[i]
def setGate (s : State) (i : PontoonId) (x : Gate) : State :=
  { s with access := { s.access with gates := s.access.gates.set i x } }

def credential (s : State) (i : CredentialSlot) : Option Credential := s.access.credentials[i]
def setCredential (s : State) (i : CredentialSlot) (x : Option Credential) : State :=
  { s with access := { s.access with credentials := s.access.credentials.set i x } }

def signal (s : State) (i : Fin 2) : Signal := s.lines.signals[i]
def setSignal (s : State) (i : Fin 2) (x : Signal) : State :=
  { s with lines := { s.lines with signals := s.lines.signals.set i x } }

end State

/-! ### Time -/

/-- The internal time base, in ms since the last start of the part (00_scope.md, "Time"). -/
def State.now (s : State) : Nat := s.part.timeBase

/-- The instant at which a timer of `ms` started now runs out. -/
def State.after (s : State) (ms : Nat) : Nat := s.now + ms

/-- The time base stands at `e` at least: an event at the end of a timer is taken no earlier than that end (log entry 6). -/
def State.advanceTo (s : State) (e : Nat) : State :=
  { s with part := { s.part with timeBase := max s.part.timeBase e } }

/-- The marina clock as notices and records carry it: 0 while unset (R183, R187). -/
def State.stamp (s : State) : Nat := if s.clock.isSet then s.clock.value else 0

/-- The time of day of the marina clock (R185). -/
def State.timeOfDay (s : State) : Nat := s.clock.value % Config.daySeconds

/-- The day number of a clock value (R59): the floor of a quotient of integers. -/
def dayNumber (value rollover : Nat) : Int := ((value : Int) - (rollover : Int)) / (Config.daySeconds : Int)

/-- The current day number; there is none while the clock is unset (R59). -/
def State.currentDay (s : State) : Option Int :=
  if s.clock.isSet then some (dayNumber s.clock.value s.clock.rollover) else none

/-- Whether a time of day lies in the window from start, included, to end, excluded, wrapping over midnight when the start
is later than the end. A start equal to the end gives `whenEqual` (R54: the whole day; R162: empty). -/
def inWindow (t start stop : Nat) (whenEqual : Bool) : Bool :=
  if start = stop then whenEqual
  else if start < stop then decide (start ≤ t) && decide (t < stop)
  else decide (start ≤ t) || decide (t < stop)

/-! ### Notices -/

/-- A notice is raised: it joins the tail of the upward queue, or is discarded with LOST set when the queue is full (R183). -/
def raise (n : Note) (s : State) : State :=
  if s.trunk.notices.length ≥ Config.noticeLimit then
    { s with trunk := { s.trunk with lost := true } }
  else
    { s with trunk := { s.trunk with notices := s.trunk.notices ++ [{ note := n, time := s.stamp }] } }

/-- A time-dependent function is used: the first such use with the clock unset raises CLOCK_UNSET (R187). -/
def noteClockUse (s : State) : State :=
  if s.clock.isSet || s.clock.unsetNoted then s
  else raise .clockUnset { s with clock := { s.clock with unsetNoted := true } }

/-! ### Credit stop -/

/-- An account stands in credit stop while it is OPEN with EXHAUSTED set, or SUSPENDED (R43). -/
def Account.inCreditStop (a : Account) : Bool :=
  match a.state with
  | .open => a.exhausted
  | .suspended => true
  | .closed => false

def State.inCreditStop (s : State) (a : AccountId) : Bool := (s.account a).inCreditStop

/-! ### Images and attention lists -/

/-- A change of a station's image (R72). -/
def modifyImage (st : StationId) (f : Image → Image) (s : State) : State :=
  s.setStation st { s.station st with image := f (s.station st).image }

/-- The Shore Power Unit writes a post's display code. A code that the Water Service has written in the same event
stands (R72). -/
def showPower (st : StationId) (code : Nat) (s : State) : State :=
  if s.link.waterShown.contains st then s else modifyImage st (fun im => { im with postDisplay := code }) s

/-- The Water Service writes a post's display code (R72, R126). -/
def showWater (st : StationId) (code : Nat) (s : State) : State :=
  let s := modifyImage st (fun im => { im with postDisplay := code }) s
  if s.link.waterShown.contains st then s
  else { s with link := { s.link with waterShown := st :: s.link.waterShown } }

/-- The attention condition of a post: an outlet STARTING or CLOSING, or a tap OPEN (R77, R103, R126). -/
def State.postBusy (s : State) (st : StationId) : Bool :=
  s.power.outlets.toList.any (fun x =>
    decide (x.post = some st) && (decide (x.state = .starting) || decide (x.state = .closing))) ||
  s.water.taps.toList.any (fun t => decide (t.post = some st) && decide (t.state = .open))

/-- The attention condition of a gate reader: its gate has a pending passage, or its image lock is UNLOCKED (R77). -/
def State.readerBusy (s : State) (st : StationId) : Bool :=
  s.access.gates.toList.any (fun g => decide (g.reader = some st) && !g.passages.isEmpty) ||
  decide ((s.station st).image.lock = .unlocked)

/-- The states in which a dispenser has its station on the attention list (R137). -/
def DispenserState.attended : DispenserState → Bool
  | .idle => false
  | .closed => false
  | _ => true

/-- The attention condition of a dispenser's station: the dispenser is neither IDLE nor CLOSED (R77, R137, R154). -/
def State.dispenserBusy (s : State) (st : StationId) : Bool :=
  s.fuel.dispensers.toList.any (fun d => decide (d.station = some st) && d.state.attended)

/-- R77's table: whether the attention condition of a station holds, by the kind of the station. A record that names a station of
another kind has no part in it (log entry 48). -/
def State.attentionDue (s : State) (st : StationId) : Bool :=
  match (s.station st).kind with
  | .gateReader => s.readerBusy st
  | .dispenser => s.dispenserBusy st
  | .post => s.postBusy st
  | .feederMonitor => false
  | .none => false

/-- Whether a station may stand on an attention list: it is served (R63, R68). -/
def Station.listable (x : Station) : Bool := x.enabled && decide (x.state ≠ .unpolled)

/-- A station that may be listed joins the attention list of its branch at the tail; one already listed stays where it stands
(R77). -/
def attend (st : StationId) (s : State) : State :=
  let x := s.station st
  let b := s.branch x.branch
  if x.listable && !b.attention.contains st then
    s.setBranch x.branch { b with attention := b.attention ++ [st] }
  else s

/-- A station leaves the attention list of a branch, and the entries behind it close up (R77). -/
def dismissFrom (b : BranchId) (st : StationId) (s : State) : State :=
  let x := s.branch b
  if x.attention.contains st then s.setBranch b { x with attention := x.attention.filter (· ≠ st) } else s

/-- A station leaves the attention list of its branch (R77). -/
def dismiss (st : StationId) (s : State) : State := dismissFrom (s.station st).branch st s

/-- The owning block adds the station when its condition begins and removes it when it ends (R77, R103, R126, R137, R159). -/
def refreshAttention (st : StationId) (s : State) : State :=
  if s.attentionDue st then attend st s else dismiss st s

/-- The same for the station that a record names, if it names one. -/
def refreshNamed (st : Option StationId) (s : State) : State :=
  match st with
  | some st => refreshAttention st s
  | none => s

/-! ### Small tools -/

/-- A state operation on each of a list of records in turn; each sees the state the one before it left. -/
def forEach {α : Type} (f : α → State → State) (l : List α) (s : State) : State :=
  l.foldl (fun s x => f x s) s

/-- Insertion of an id into an ascending list. -/
def insertAscending {n : Nat} (i : Fin n) : List (Fin n) → List (Fin n)
  | [] => [i]
  | j :: l => if i ≤ j then i :: j :: l else j :: insertAscending i l

/-- The ids of a list in ascending order. -/
def ascending {n : Nat} (l : List (Fin n)) : List (Fin n) := l.foldr insertAscending []

/-- A draw of the model's free-value counter (log entry 21). -/
def draw (s : State) : Nat × State :=
  (s.part.draws, { s with part := { s.part with draws := s.part.draws + 1 } })

end Sys2Proof.Machine
end

