-- ==== Sys2Proof/Machine/Flags.lean ====
section
/-! DEFINITION. The flags of the part: an account's EXHAUSTED, LOW and SATURATED with the balance changes that drive them, a
tank's LOW_STOCK, the counts and conditions that STATUS and the signal lines show, and the lines themselves. -/

namespace Sys2Proof.Machine

/-! ### Account flags (R41, R42, R47) -/

/-- The available credit A (R41). -/
def Account.available (a : Account) : Int := a.balance + a.creditLimit - a.heldTotal

/-- R41's table for EXHAUSTED. -/
def evaluateExhausted (i : AccountId) (s : State) : State :=
  let a := s.account i
  if a.exhausted then
    if a.available ≥ a.restoreMargin then
      raise (.accountRestored i a.available) (s.setAccount i { a with exhausted := false })
    else s
  else if a.available < 0 then
    raise (.accountExhausted i a.available) (s.setAccount i { a with exhausted := true })
  else s

/-- R42's table for LOW. -/
def evaluateLow (i : AccountId) (s : State) : State :=
  let a := s.account i
  if a.low then
    if a.available ≥ a.lowThreshold + a.restoreMargin then
      raise (.accountLow i false a.available) (s.setAccount i { a with low := false })
    else s
  else if a.available < a.lowThreshold then
    raise (.accountLow i true a.available) (s.setAccount i { a with low := true })
  else s

/-- Both flags, in the order of their notices (R42). -/
def evaluateFlags (i : AccountId) (s : State) : State := evaluateLow i (evaluateExhausted i s)

/-- SATURATED for an amount that a bound cut off (R47); nothing when the whole amount was applied. -/
def noteSaturation (i : AccountId) (high : Bool) (lost : Nat) (s : State) : State :=
  let a := s.account i
  if lost = 0 || a.saturated then s
  else raise (.balanceSaturated i high lost) (s.setAccount i { a with saturated := true })

/-- A debit of `c` cents with the floor of R38 and R55 stage 4: the part not applied, and the state. -/
def lowerBalance (i : AccountId) (c : Nat) (s : State) : Nat × State :=
  let a := s.account i
  let exact := a.balance - c
  let floor : Int := -Config.balanceBound
  let lost := (floor - exact).toNat
  (lost, noteSaturation i false lost (s.setAccount i { a with balance := max exact floor }))

/-- A credit of `c` cents with the bound of R38 and R46: the part not applied, and the state. -/
def raiseBalance (i : AccountId) (c : Nat) (s : State) : Nat × State :=
  let a := s.account i
  let exact := a.balance + c
  let ceiling : Int := Config.balanceBound
  let lost := (exact - ceiling).toNat
  (lost, noteSaturation i true lost (s.setAccount i { a with balance := min exact ceiling }))

/-- The count of OPEN or SUSPENDED accounts with EXHAUSTED set (R43). -/
def State.exhaustedCount (s : State) : Nat :=
  s.ledger.accounts.toList.countP (fun a => a.exhausted && decide (a.state ≠ .closed))

/-! ### Tank flags (R133) -/

/-- The LOW_STOCK evaluation at a change of stock or threshold (R133). A setting raises STOCK_LOW. -/
def evaluateLowStock (g : GradeId) (s : State) : State :=
  let t := s.tank g
  if t.stock < t.lowStock then
    if t.lowFlag then s else raise (.stockLow g t.stock t.lowStock) (s.setTank g { t with lowFlag := true })
  else s.setTank g { t with lowFlag := false }

/-- A decrease of stock, floored at 0 with STOCK_NEGATIVE, then the evaluation (R133). -/
def lowerStock (g : GradeId) (volume : Nat) (s : State) : State :=
  let t := s.tank g
  let s1 := s.setTank g { t with stock := t.stock - volume }
  let s2 := if volume > t.stock then raise (.stockNegative g (volume - t.stock)) s1 else s1
  evaluateLowStock g s2

/-! ### Inputs and conditions -/

/-- Whether an input counts as asserted (R189). -/
def Input.asserted (i : Input) : Bool := decide (i.taken = .asserted)

/-- An input taken at a level: its pin and its last sample show that level (R189; log entry 5). -/
def Input.atLevel (l : TakenLevel) : Input :=
  { pinLow := decide (l = .asserted), lastSample := some (decide (l = .asserted)), taken := l }

/-- The gates are released while FIRE is asserted or the office flag is set (R168). -/
def State.gatesReleased (s : State) : Bool := s.lines.fire.asserted || s.access.officeRelease

/-- A gate is in use while its pontoon's gate present setting is yes (R158). -/
def State.gateInUse (s : State) (g : PontoonId) : Bool := (s.pontoon g).gatePresent

/-- A dispenser holds a sale in AUTHORISED, DELIVERING and SETTLING (R135). -/
def DispenserState.holdsSale : DispenserState → Bool
  | .authorised => true
  | .delivering => true
  | .settling => true
  | _ => false

/-- The fuel alarm condition (R137). -/
def State.fuelAlarm (s : State) : Bool :=
  s.lines.estop.asserted ||
  s.fuel.dispensers.toList.any (fun d =>
    (decide (d.state = .delivering) || decide (d.state = .settling)) &&
    (match d.sale with | some x => x.overrun | none => false))

/-- The number of feeders that are not NORMAL (R111). -/
def State.feedersAway (s : State) : Nat := s.power.feeders.toList.countP (fun f => decide (f.state ≠ .normal))

/-- The count of TRIPPED and LOCKED outlets (R87). -/
def State.trippedCount (s : State) : Nat :=
  s.power.outlets.toList.countP (fun o => decide (o.state = .tripped) || decide (o.state = .locked))

/-- The number of OFFLINE stations of a branch (R62, R69). -/
def State.offlineOn (s : State) (b : BranchId) : Nat :=
  s.link.stations.toList.countP (fun x => decide (x.branch = b) && decide (x.state = .offline))

/-- The number of OFFLINE stations, summed over the branches (R69). -/
def State.offlineCount (s : State) : Nat := s.link.stations.toList.countP (fun x => decide (x.state = .offline))

/-- The number of gates with the forced flag set (R167). -/
def State.forcedCount (s : State) : Nat := s.access.gates.toList.countP (fun g => g.forced)

/-- Whether any gate in use is RELEASED (R188). -/
def State.anyReleased (s : State) : Bool :=
  (entries s.access.gates).any (fun e => s.gateInUse e.1 && decide (e.2.lock = .released))

/-! ### Signal lines (R188) -/

/-- The seven sources in the order of R188's table. -/
def State.sources (s : State) : BitVec 7 :=
  let bit (n : Nat) (c : Bool) : BitVec 7 := if c then BitVec.twoPow 7 n else 0
  bit 0 (decide (s.feedersAway > 0)) ||| bit 1 (decide (s.trippedCount > 0)) ||| bit 2 s.fuelAlarm |||
  bit 3 (decide (s.forcedCount > 0) || s.anyReleased) ||| bit 4 (!s.trunk.notices.isEmpty) |||
  bit 5 (decide (s.offlineCount > 0)) ||| bit 6 (decide (s.exhaustedCount > 0))

/-- A line's demand. -/
def Signal.demand (x : Signal) (sources : BitVec 7) : Bool := x.enable && decide (x.mask &&& sources ≠ 0)

/-- A line follows its demand (R188): it becomes asserted with its stretch timer when the demand comes, and falls when the
demand has gone and no stretch timer runs. -/
def Signal.follow (x : Signal) (demand : Bool) (now : Nat) : Signal :=
  match demand, x.asserted, x.timer with
  | true, false, _ =>
    { x with asserted := true, timer := if x.stretch = 0 then none else some (now + x.stretch * Config.secondMs) }
  | false, true, none => { x with asserted := false }
  | _, _, _ => x

/-- One line follows the sources as they stand. -/
def followSignal (i : Fin 2) (sources : BitVec 7) (s : State) : State :=
  s.setSignal i ((s.signal i).follow ((s.signal i).demand sources) s.now)

/-- Both lines follow the sources as an event leaves them. -/
def followSignals (s : State) : State :=
  let sources := s.sources
  followSignal 1 sources (followSignal 0 sources s)

/-- The output level of a line, high or not: low while the part does not run (R188). -/
def State.outputHigh (s : State) (i : Fin 2) : Bool :=
  decide (s.part.condition = .running) &&
  ((s.signal i).asserted == decide ((s.signal i).polarity = .activeHigh))

/-! ### The end of an event -/

/-- What ends every event of a running part: the scratch of R72 is emptied and the lines follow their demand (R188). -/
def finish (s : State) : State := followSignals { s with link := { s.link with waterShown := [] } }

/-- One whole event of a running part; a part in reset or without power takes no event (R191). -/
def event (f : State → State) (s : State) : Host.Outcome State Fault Refusal :=
  .next (if s.part.condition = .running then finish (f s) else s)

end Sys2Proof.Machine
end

