-- ==== Sys2Proof/Machine/Operands.lean ====
section
/-! DEFINITION. The operands of the commands: every number that a trunk request carries is turned into the typed value it
stands for, or found outside its range. A check answers `none` where the owner's rule refuses BAD_VALUE. -/

namespace Sys2Proof.Machine

/-- An id below `n`. -/
def idOf (n v : Nat) : Option (Fin n) := if h : v < n then some ⟨v, h⟩ else none

/-- An optional id below `n`: absent is in range. -/
def optIdOf (n : Nat) : Option Nat → Option (Option (Fin n))
  | none => some none
  | some v => (idOf n v).map some

/-- A yes/no field: 0 or 1 (R193). -/
def yesNo (v : Nat) : Option Bool := if v = 0 then some false else if v = 1 then some true else none

/-- A number with an upper bound. -/
def upTo (hi v : Nat) : Option Nat := if v ≤ hi then some v else none

/-- A number between two bounds. -/
def within (lo hi v : Nat) : Option Nat := if lo ≤ v ∧ v ≤ hi then some v else none

/-- A time of day in seconds, 0 to 86,399. -/
def timeOfDayOf (v : Nat) : Option Nat := upTo 86399 v

/-- A marina-clock value. -/
def clockValueOf (v : Nat) : Option Nat := upTo Config.clockMax v

/-- An amount of 1 to 99,999,999 cents (R46, R49). -/
def amountOf (v : Nat) : Option Nat := within 1 Config.balanceBound v

/-- The current of a power class in A, NONE counting as 0 (R2). -/
def PowerClass.amps : PowerClass → Nat
  | .none => 0
  | .a16 => 16
  | .a32 => 32
  | .a63 => 63
  | .a125 => 125

def PowerClass.ofCode : Nat → Option PowerClass
  | 0 => some .none
  | 1 => some .a16
  | 2 => some .a32
  | 3 => some .a63
  | 4 => some .a125
  | _ => Option.none

def StationKind.ofCode : Nat → Option StationKind
  | 0 => some .none
  | 1 => some .post
  | 2 => some .gateReader
  | 3 => some .dispenser
  | 4 => some .feederMonitor
  | _ => Option.none

def FilterMode.ofCode : Nat → Option FilterMode
  | 0 => some .pass
  | 1 => some .passNote
  | 2 => some .blockNote
  | 3 => some .block
  | _ => none

def AccountKind.ofCode : Nat → Option AccountKind
  | 0 => some .prepaid
  | 1 => some .credit
  | _ => none

/-- A credential kind as a write carries it; NONE, code 4, empties the slot and is no kind of a record (R155, R156). -/
def CredentialKind.ofCode : Nat → Option CredentialKind
  | 0 => some .guest
  | 1 => some .crew
  | 2 => some .staff
  | 3 => some .contractor
  | _ => none

def Polarity.ofCode : Nat → Option Polarity
  | 0 => some .activeHigh
  | 1 => some .activeLow
  | _ => none

/-- Whether a list holds no entry twice. -/
def noDuplicates : List Nat → Bool
  | [] => true
  | a :: l => !l.contains a && noDuplicates l

/-! ### Record writes -/

/-- R177: the marina settings. -/
def checkMarina (w : MarinaWrite) : Option MarinaSettings := do
  let node ← within 1 254 w.node
  let lead ← upTo 48 w.lead
  let keel ← upTo 20 w.keel
  let exitGrace ← upTo 240 w.exitGrace
  let deglitch ← within 1 15 w.deglitch
  let tripCount ← within 1 7 w.tripCount
  let graceTime ← upTo 255 w.graceTime
  let leakThreshold ← within 1 50 w.leakThreshold
  let staffAccount ← optIdOf 512 w.staffAccount
  pure { node, lead, keel, exitGrace, deglitch, tripCount, graceTime, leakThreshold, staffAccount }

/-- The BAD_VALUE checks of a pontoon write (R1, R110, R158). -/
def checkPontoon (w : PontoonWrite) : Option PontoonSettings := do
  let gatePresent ← yesNo w.gatePresent
  let capacity ← upTo 1000 w.capacity
  let reserve ← upTo 250 w.reserve
  let reserve ← upTo capacity reserve
  let commitLimit ← upTo 4000 w.commitLimit
  let peopleCapacity ← upTo 255 w.peopleCapacity
  let passbackStrict ← yesNo w.passbackStrict
  let curfewStart ← timeOfDayOf w.curfewStart
  let curfewEnd ← timeOfDayOf w.curfewEnd
  let curfewMode ← upTo 3 w.curfewMode
  let vf ← within 100 300 w.vf
  let vr ← within 100 300 w.vr
  let vr ← within (vf + 1) 300 vr
  pure { gatePresent, capacity, reserve, commitLimit, peopleCapacity, passbackStrict, curfewStart, curfewEnd, curfewMode,
         vf, vr }

/-- The settings part of a berth in range (R4). -/
structure BerthSettings where
  pontoon : PontoonId
  maxLoa  : Nat
  maxBeam : Nat
  depth   : Nat
  outlets : List OutletId
  tap     : Option TapId
  deriving DecidableEq, Repr

/-- The BAD_VALUE checks of a berth write (R4). -/
def checkBerth (w : BerthWrite) : Option BerthSettings := do
  let pontoon ← idOf 12 w.pontoon
  let maxLoa ← upTo 1023 w.maxLoa
  let maxBeam ← upTo 1023 w.maxBeam
  let depth ← upTo 1023 w.depth
  let _ ← upTo 2 w.outlets.length
  let outlets ← w.outlets.mapM (idOf 192)
  let tap ← optIdOf 128 w.tap
  if noDuplicates w.outlets then pure { pontoon, maxLoa, maxBeam, depth, outlets, tap } else none

/-- The BAD_VALUE checks of a stay's settings part (R6, R9 check 1). -/
def checkStay (w : StayWrite) : Option StaySettings := do
  let loa ← within 1 1023 w.loa
  let beam ← within 1 1023 w.beam
  let draft ← within 1 1023 w.draft
  let power ← PowerClass.ofCode w.powerClass
  let priority ← idOf 4 w.priority
  let allowance ← upTo 65535 w.allowance
  let account ← idOf 512 w.account
  let arrival ← clockValueOf w.arrival
  let departure ← clockValueOf w.departure
  let departure ← within (arrival + 1) Config.clockMax departure
  let holdGrace ← upTo 24 w.holdGrace
  let autoArrive ← yesNo w.autoArrive
  pure { loa, beam, draft, power, priority, allowance, account, arrival, departure, holdGrace, prefs := w.prefs,
         autoArrive }

/-- The settings part of an account in range (R38); a PREPAID kind stores a credit limit of 0 (R39, R40). -/
structure AccountSettings where
  kind          : AccountKind
  creditLimit   : Nat
  adjustment    : Int
  lowThreshold  : Nat
  restoreMargin : Nat
  deriving DecidableEq, Repr

/-- The BAD_VALUE checks of an account's settings part (R38, R39, R40). -/
def checkAccount (w : AccountWrite) : Option AccountSettings := do
  let kind ← AccountKind.ofCode w.kind
  let creditLimit ← upTo 10000000 w.creditLimit
  let lowThreshold ← upTo 1000000 w.lowThreshold
  let restoreMargin ← upTo 1000000 w.restoreMargin
  if -50 ≤ w.adjustment ∧ w.adjustment ≤ 50 then
    pure { kind, creditLimit := if kind = .prepaid then 0 else creditLimit, adjustment := w.adjustment, lowThreshold,
           restoreMargin }
  else none

/-- A price, 0 to 99,999,999 points (R53). -/
def priceOf (v : Nat) : Option Nat := upTo 99999999 v

/-- R53: the tariff record. -/
def checkTariff (w : TariffWrite) : Option Tariff := do
  let powerDay ← priceOf w.powerDay
  let powerNight ← priceOf w.powerNight
  let water ← priceOf w.water
  let fuel0 ← priceOf w.fuel0
  let fuel1 ← priceOf w.fuel1
  let berth ← priceOf w.berth
  let dayStart ← timeOfDayOf w.dayStart
  let dayEnd ← timeOfDayOf w.dayEnd
  pure { powerDay, powerNight, water, fuel0, fuel1, berth, dayStart, dayEnd }

/-- The settings part of a branch in range (R62). -/
structure BranchSettings where
  rateCode      : Nat
  missLimit     : Nat
  answerTimeout : Nat
  ratio         : Nat
  deriving DecidableEq, Repr

def checkBranch (w : BranchWrite) : Option BranchSettings := do
  let rateCode ← upTo 7 w.rateCode
  let missLimit ← within 1 7 w.missLimit
  let answerTimeout ← within 2 50 w.answerTimeout
  let ratio ← within 1 4 w.ratio
  pure { rateCode, missLimit, answerTimeout, ratio }

/-- The settings part of a station in range (R67). -/
structure StationSettings where
  kind        : StationKind
  branch      : BranchId
  address     : Nat
  enabled     : Bool
  outletCount : Option Nat
  tapCount    : Option Nat
  pontoon     : Option PontoonId
  deriving DecidableEq, Repr

/-- The field checks of a station write: a POST carries both counts, a FEEDER_MONITOR its pontoon, and no other kind carries
them (R67, R68; log entry 10). -/
def checkStation (w : StationWrite) : Option StationSettings := do
  let kind ← StationKind.ofCode w.kind
  let branch ← idOf 6 w.branch
  let address ← within 1 31 w.address
  let enabled ← yesNo w.enabled
  let pontoon ← optIdOf 12 w.pontoon
  let counts : Option (Option Nat × Option Nat) :=
    match kind, w.outletCount, w.tapCount with
    | .post, some o, some t => do
      let o ← within 1 4 o
      let t ← upTo 2 t
      pure (some o, some t)
    | .post, _, _ => none
    | _, none, none => some (none, none)
    | _, _, _ => none
  let counts ← counts
  if (kind = .feederMonitor) = (pontoon.isSome = true) then
    pure { kind, branch, address, enabled, outletCount := counts.1, tapCount := counts.2, pontoon }
  else none

/-- R181: a filter record. -/
def checkFilter (w : FilterWrite) : Option FilterRecord := do
  let query ← FilterMode.ofCode w.query
  let config ← FilterMode.ofCode w.config
  let actuate ← FilterMode.ofCode w.actuate
  let service ← FilterMode.ofCode w.service
  pure { query, config, actuate, service }

/-- The settings part of an outlet in range (R84). -/
structure OutletSettings where
  post   : Option StationId
  socket : Fin 4
  rating : Nat
  deriving DecidableEq, Repr

def checkOutlet (w : OutletWrite) : Option OutletSettings := do
  let post ← optIdOf 128 w.post
  let socket ← idOf 4 w.socket
  if w.rating = 16 ∨ w.rating = 32 ∨ w.rating = 63 ∨ w.rating = 125 then pure { post, socket, rating := w.rating } else none

/-- The two fields of a start record in range (R86). -/
def checkStart (w : StartWrite) : Option (Nat × Nat) := do
  let startTime ← within 1 30 w.startTime
  let startFactor ← within 100 300 w.startFactor
  pure (startTime, startFactor)

/-- One step of a program write (R119). -/
def checkStep (w : StepWrite) : Option ProgramStep := do
  let delay ← upTo 15 w.delay
  let endFlag ← yesNo w.endFlag
  pure { delay, mask := w.mask, endFlag }

/-- All eight steps of a program write (R119). -/
def stepsChecked (w : Vector StepWrite 8) : Option (Vector ProgramStep 8) := do
  let a ← checkStep w[0]
  let b ← checkStep w[1]
  let c ← checkStep w[2]
  let d ← checkStep w[3]
  let e ← checkStep w[4]
  let f ← checkStep w[5]
  let g ← checkStep w[6]
  let h ← checkStep w[7]
  pure #v[a, b, c, d, e, f, g, h]

/-- The settings part of a tap in range (R124). -/
structure TapSettings where
  post     : Option StationId
  tapIndex : Fin 2
  maxRun   : Nat
  deriving DecidableEq, Repr

def checkTap (w : TapWrite) : Option TapSettings := do
  let post ← optIdOf 128 w.post
  let tapIndex ← idOf 2 w.tapIndex
  let maxRun ← within 1 255 w.maxRun
  pure { post, tapIndex, maxRun }

/-- The two settings of a tank in range (R133). -/
def checkTank (w : TankWrite) : Option (Nat × Nat) := do
  let reserve ← upTo 1000000 w.reserve
  let lowStock ← upTo 10000000 w.lowStock
  pure (reserve, lowStock)

/-- The settings part of a dispenser in range (R135). -/
structure DispenserSettings where
  station       : Option StationId
  grade         : GradeId
  maxPreset     : Nat
  tolerance     : Nat
  nozzleTimeout : Nat
  deriving DecidableEq, Repr

def checkDispenser (w : DispenserWrite) : Option DispenserSettings := do
  let station ← optIdOf 128 w.station
  let grade ← idOf 2 w.grade
  let maxPreset ← within 100 99999 w.maxPreset
  let tolerance ← upTo 100 w.tolerance
  let nozzleTimeout ← within 10 600 w.nozzleTimeout
  pure { station, grade, maxPreset, tolerance, nozzleTimeout }

/-- The settings part of a credential in range, with its written state (R156). -/
structure CredentialSettings where
  number    : CardNumber
  kind      : CredentialKind
  stay      : Option StayId
  account   : Option AccountId
  pontoons  : PontoonSet
  validFrom : Nat
  validTo   : Nat
  state     : CredentialState
  deriving DecidableEq, Repr

/-- Check 1 of a credential write (R156): ranges, the written state, the fields each kind has, and the window's order. -/
def checkCredential (w : CredentialWrite) : Option CredentialSettings := do
  let kind ← CredentialKind.ofCode w.kind
  let stay ← optIdOf 256 w.stay
  let account ← optIdOf 512 w.account
  let validFrom ← clockValueOf w.validFrom
  let validTo ← clockValueOf w.validTo
  let state ← if w.state = 0 then some CredentialState.active else if w.state = 1 then some .suspended else none
  let fieldsFit := match kind with
    | .guest => stay.isSome && account.isNone
    | .crew => account.isSome && stay.isNone
    | _ => stay.isNone && account.isNone
  if fieldsFit && !(decide (validFrom ≠ 0) && decide (validTo ≠ 0) && decide (validTo < validFrom)) then
    pure { number := w.number, kind, stay, account, pontoons := w.pontoons, validFrom, validTo, state }
  else none

/-- The three fields of a gate record in range (R158). -/
structure GateSettings where
  reader     : Option StationId
  unlockTime : Nat
  heldLimit  : Nat
  deriving DecidableEq, Repr

def checkGate (w : GateWrite) : Option GateSettings := do
  let reader ← optIdOf 128 w.reader
  let unlockTime ← within 1 30 w.unlockTime
  let heldLimit ← within 5 600 w.heldLimit
  pure { reader, unlockTime, heldLimit }

/-- The settings part of a signal record in range (R188). -/
structure SignalSettings where
  mask     : BitVec 7
  enable   : Bool
  polarity : Polarity
  stretch  : Nat
  deriving DecidableEq, Repr

/-- Bit 7 of the mask names no source (R188, R193). Master enable is a yes/no field: the model's choice (log entry 46). -/
def checkSignal (w : SignalWrite) : Option SignalSettings := do
  let enable ← yesNo w.enable
  let polarity ← Polarity.ofCode w.polarity
  let stretch ← upTo 3 w.stretch
  if w.mask.getLsbD 7 then none else pure { mask := w.mask.setWidth 7, enable, polarity, stretch }

end Sys2Proof.Machine
end

