-- ==== Sys2Proof/Machine/Power.lean ====
section
/-! DEFINITION. The Shore Power Unit's shared operations (chapter 5): the permit, the budget, the start queue and its slot, the
upgrade list, grace and closing, and what an outlet shows in its post's image. -/

namespace Sys2Proof.Machine

/-! ### Berths and stays as the permits see them -/

/-- The ARRIVED stay that occupies a berth (R7). -/
def State.berthStay (s : State) (b : BerthId) : Option StayId :=
  if (s.berth b).state = .occupied then
    match (s.berth b).currentStay with
    | some t => if (s.stay t).state = .arrived then some t else none
    | none => none
  else none

/-- The pontoon of an outlet is that of its berth (R3). -/
def State.outletPontoon (s : State) (o : OutletId) : Option PontoonId :=
  (s.outlet o).berth.map (fun b => (s.berth b).pontoon)

/-- The ARRIVED stay on an outlet's berth. -/
def State.outletStay (s : State) (o : OutletId) : Option StayId := (s.outlet o).berth.bind s.berthStay

/-- The ids of the outlets that satisfy a condition, ascending. -/
def State.outletsWhere (s : State) (p : Outlet → Bool) : List OutletId :=
  (entries s.power.outlets).filterMap (fun e => if p e.2 then some e.1 else none)

/-! ### The budget (R92) -/

/-- The states whose grant counts in used (R92). -/
def OutletState.counted : OutletState → Bool
  | .starting => true
  | .on => true
  | .grace => true
  | .closing => true
  | _ => false

/-- The states in which an outlet's readings are charged (R87). -/
def OutletState.energised : OutletState → Bool
  | .resync => true
  | st => st.counted

/-- Used amps of a pontoon (R92). -/
def State.usedAmps (s : State) (p : PontoonId) : Nat :=
  s.power.outlets.toList.foldl
    (fun n x => if x.state.counted && decide (x.grantPontoon = some p) then n + x.granted else n) 0

/-- Headroom of a pontoon: capacity − reserve − used (R92). -/
def State.headroom (s : State) (p : PontoonId) : Int :=
  ((s.pontoon p).capacity : Int) - (s.pontoon p).reserve - s.usedAmps p

/-- The largest of 10, 16, 32, 63 and 125 A that is at most `bound` (R93). -/
def largestStep (bound : Int) : Option Nat := [125, 63, 32, 16, 10].find? (fun (g : Nat) => decide ((g : Int) ≤ bound))

/-- The limit code of a grant (R87). -/
def limitCode (g : Nat) : Nat :=
  if g = 10 then 1 else if g = 16 then 2 else if g = 32 then 3 else if g = 63 then 4 else if g = 125 then 5 else 0

/-! ### What the post shows (R87) -/

/-- The condition of R87's display table. -/
def Outlet.condition (x : Outlet) : Nat :=
  match x.state, x.reason with
  | .vacant, _ => 0
  | .plugged, some .noStay => 1
  | .plugged, some .credit => 2
  | .plugged, some .noClass => 3
  | .plugged, some .closingPending => 4
  | .plugged, none => 0
  | .queued, _ => 5
  | .starting, _ => 6
  | .on, _ => 7
  | .grace, _ => 8
  | .shed, _ => 9
  | .closing, _ => 10
  | .tripped, _ => 11
  | .locked, _ => 12
  | .resync, _ => 13

/-- Switch and limit code of an outlet's image entry; a RESYNC outlet's entry stays as retained (R87). -/
def Outlet.imageEntry (x : Outlet) (old : OutletImage) : OutletImage :=
  match x.state with
  | .starting => { on := true, code := limitCode x.granted }
  | .on => { on := true, code := limitCode x.granted }
  | .grace => { on := true, code := limitCode x.granted }
  | .resync => old
  | _ => { on := false, code := 0 }

/-- The unit writes an outlet's entry in its post's image and the post's display code (R87). -/
def showOutlet (x : Outlet) (s : State) : State :=
  match x.post with
  | none => s
  | some st =>
    showPower st (16 * x.socket.val + x.condition)
      (modifyImage st (fun im =>
        { im with outlets := im.outlets.set x.socket (x.imageEntry im.outlets[x.socket]) }) s)

/-- An outlet record is written; a change of its state, its grant or its reason is shown (R87). -/
def putOutlet (o : OutletId) (x : Outlet) (s : State) : State :=
  let old := s.outlet o
  let s := s.setOutlet o x
  if old.state = x.state ∧ old.granted = x.granted ∧ old.reason = x.reason then s else showOutlet x s

/-! ### Slot, queue and list membership (R93, R100) -/

/-- An outlet leaves one pontoon's start slot, start queue and upgrade list. -/
def leaveStart (o : OutletId) (p : PontoonId) (s : State) : State :=
  let r := s.start p
  if decide (r.slot = some o) || r.queue.contains o || r.upgrades.contains o then
    s.setStart p { r with slot := if r.slot = some o then none else r.slot, queue := r.queue.filter (· ≠ o),
                          upgrades := r.upgrades.filter (· ≠ o) }
  else s

/-- An outlet leaves every start slot, start queue and upgrade list that holds it. -/
def leaveStarts (o : OutletId) (s : State) : State := forEach (leaveStart o) (List.finRange 12) s

/-! ### The permit (R90) -/

/-- The outcome of the permit; a permit that passes names the stay. -/
inductive Permit where
  | passed (stay : StayId)
  | refused (reason : PlugReason)
  | shed
  deriving DecidableEq, Repr

/-- Whether a feeder admits a priority class (R111). -/
def Feeder.admits (f : Feeder) (c : PriorityClass) : Bool := f.admitted.getLsbD c.val

/-- The six tests of R90 in their order. -/
def permit (s : State) (o : OutletId) : Permit :=
  match (s.outlet o).berth with
  | none => .refused .noStay
  | some b =>
    if (s.berth b).state = .clearing then .refused .closingPending
    else
      match s.berthStay b with
      | none => .refused .noStay
      | some t =>
        let v := (s.stay t).settings
        if v.power = .none then .refused .noClass
        else if s.inCreditStop v.account then .refused .credit
        else if (s.feeder (s.berth b).pontoon).admits v.priority then .passed t
        else .shed

/-- The outcome of a permit is carried out: a passing outlet that is not yet QUEUED joins the tail of its pontoon's start
queue, a QUEUED one keeps its place, and one that fails leaves the queue (R90). -/
def applyPermit (o : OutletId) (s : State) : State :=
  let x := s.outlet o
  match permit s o with
  | .passed _ =>
    if x.state = .queued then s
    else
      let s := putOutlet o { x with state := .queued, reason := none, target := none } s
      match s.outletPontoon o with
      | some p => s.setStart p { s.start p with queue := (s.start p).queue ++ [o] }
      | none => s
  | .refused r => putOutlet o { x with state := .plugged, reason := some r, target := none } (leaveStarts o s)
  | .shed => putOutlet o { x with state := .shed, reason := none, target := none } (leaveStarts o s)

/-- A re-evaluation changes PLUGGED, SHED and QUEUED outlets alone (R90). -/
def reevaluate (o : OutletId) (s : State) : State :=
  match (s.outlet o).state with
  | .plugged => applyPermit o s
  | .shed => applyPermit o s
  | .queued => applyPermit o s
  | _ => s

/-! ### Grants and the start slot (R93, R94) -/

/-- R94: the head `o` of pontoon `p`'s queue is granted `g` amperes for stay `t`. -/
def grant (p : PontoonId) (o : OutletId) (t : StayId) (g : Nat) (s : State) : State :=
  let x := s.outlet o
  let v := (s.stay t).settings
  let r := s.start p
  let s := s.setStart p { r with slot := some o, queue := r.queue.tail }
  let s := putOutlet o
    { x with state := .starting, granted := g, grantPontoon := some p,
             limited := decide (g < min v.power.amps x.rating), billing := some v.account, estimated := false,
             finalOwed := false, overLimit := 0, startTimer := some (s.after (r.startTime * Config.secondMs)) } s
  refreshNamed x.post s

/-- R93: while the slot is free and the queue is not empty, the head is considered; a head whose permit fails leaves and the
next is considered. The fuel is the length of the queue. -/
def considerHeads : Nat → PontoonId → State → State
  | 0, _, s => s
  | n + 1, p, s =>
    match (s.start p).slot, (s.start p).queue with
    | none, o :: _ =>
      match permit s o with
      | .passed t =>
        let bound := min (((s.stay t).settings.power.amps : Int)) (min ((s.outlet o).rating : Int) (s.headroom p))
        match largestStep bound with
        | some g => grant p o t g s
        | none => s
      | _ => considerHeads n p (applyPermit o s)
    | _, _ => s

def consider (p : PontoonId) (s : State) : State := considerHeads (s.start p).queue.length p s

/-- The pontoons whose slot an operation has freed or whose queue head it has changed are considered (R93). -/
def reconsider (old : State) (s : State) : State :=
  forEach (fun p s =>
    let a := old.start p
    let b := s.start p
    if (a.slot.isSome && b.slot.isNone) || decide (a.queue.head? ≠ b.queue.head?) then consider p s else s)
    (List.finRange 12) s

/-! ### Headroom increases (R92, R100) -/

/-- One entry of the upgrade walk (R100). -/
def upgradeOne (p : PontoonId) (o : OutletId) (s : State) : State :=
  let x := s.outlet o
  let target := match s.outletStay o with
    | some t => min (s.stay t).settings.power.amps x.rating
    | none => 0
  let g := match largestStep (min (target : Int) (s.headroom p + x.granted)) with
    | some g => if g > x.granted then g else x.granted
    | none => x.granted
  let s := if g > x.granted then putOutlet o { x with granted := g, overLimit := 0 } s else s
  if g ≥ target then
    let r := s.start p
    (s.setOutlet o { s.outlet o with limited := false }).setStart p { r with upgrades := r.upgrades.filter (· ≠ o) }
  else s

/-- The upgrade list is walked once from its head (R100). -/
def upgradeWalk (p : PontoonId) (s : State) : State := forEach (upgradeOne p) (s.start p).upgrades s

/-- A headroom increase: the upgrade list first, then the start queue (R92). -/
def headroomIncrease (p : PontoonId) (s : State) : State := consider p (upgradeWalk p s)

/-! ### Leaving the energised states -/

/-- R102: an outlet enters CLOSING with a target. A grant to be resumed is dropped; any other grant stays counted. -/
def enterClosing (o : OutletId) (target : CloseTarget) (reason : Option PlugReason) (s : State) : State :=
  let x := s.outlet o
  let x := if x.state = .resync then { x with granted := 0, grantPontoon := none, limited := false } else x
  let s := putOutlet o { x with state := .closing, target := some target, reason := reason, startTimer := none,
                                graceTimer := none } (leaveStarts o s)
  refreshNamed x.post s

/-- An outlet's grant is released; a grant that counted in used is a headroom increase (R92). -/
def releaseGrant (o : OutletId) (s : State) : State :=
  let x := s.outlet o
  let s := (leaveStarts o s).setOutlet o { x with granted := 0, grantPontoon := none, limited := false }
  match x.state.counted, x.grantPontoon with
  | true, some p => headroomIncrease p s
  | _, _ => s

/-- An outlet leaves the energised states without CLOSING, or is confirmed: its grant is released, and it takes the state
`st` (R89, R92, R97, R103). The release comes first, with the upgrades and the grant it makes and the display code they write, as
R89 and R103 list the two; at a post trip R97 gives no order, and this one is the model's choice (log entry 51). -/
def releaseTo (o : OutletId) (st : OutletState) (s0 : State) : State :=
  let s := releaseGrant o s0
  let s := putOutlet o { s.outlet o with state := st, reason := none, target := none, startTimer := none,
                                         graceTimer := none } s
  reconsider s0 (refreshNamed (s.outlet o).post s)

/-- An outlet whose account is in credit stop enters GRACE, or CLOSING at once when the grace time is 0 (R101). -/
def enterGrace (o : OutletId) (s : State) : State :=
  if s.settings.graceTime = 0 then enterClosing o .plugged (some .credit) s
  else
    putOutlet o { s.outlet o with state := .grace,
                                  graceTimer := some (s.after (s.settings.graceTime * Config.minuteMs)) } s

/-! ### Trips (R97) -/

/-- Whether a trip now locks the outlet: its last clear lies less than 600 s back (R97). -/
def State.tripLocks (s : State) (o : OutletId) : Bool :=
  match (s.outlet o).lastClear with
  | some c => decide (s.now < c + Config.relockMs)
  | none => false

/-- The trip is recorded and its notice raised (R97). -/
def noteTrip (o : OutletId) (cause : TripCause) (locked : Bool) (s : State) : State :=
  raise (.outletTripped o cause (s.outlet o).lastCurrent locked)
    (s.setOutlet o { s.outlet o with lastTrip := some cause })

/-- A trip by the unit's own limit tests: CLOSING with target TRIPPED or LOCKED (R94, R96, R102). -/
def limitTrip (o : OutletId) (cause : TripCause) (s : State) : State :=
  let locked := s.tripLocks o
  noteTrip o cause locked (reconsider s (enterClosing o (if locked then .locked else .tripped) none s))

/-! ### Berth events -/

/-- The outlets of an outlet's berth, itself among them, in ascending id; an outlet without a berth stands alone (R91). -/
def State.berthMates (s : State) (o : OutletId) : List OutletId :=
  match (s.outlet o).berth with
  | some b => s.outletsWhere (fun x => decide (x.berth = some b))
  | none => [o]

/-- An outlet comes back to the unenergised states with its plug present, at a confirmation, a RESET OUTLET or an UNLOCK OUTLET: it
is PLUGGED, and the PLUGGED, SHED and QUEUED outlets of its berth are evaluated, itself among them (R91, R98, R99, R103). -/
def returnPlugged (o : OutletId) (s : State) : State :=
  let s := s.setOutlet o { s.outlet o with state := .plugged, reason := none, target := none }
  forEach reevaluate (s.berthMates o) s

/-- The permits of a berth's outlets are evaluated again in ascending outlet id (R91). -/
def reevaluateBerth (b : BerthId) (s : State) : State :=
  reconsider s (forEach reevaluate (ascending (s.berth b).outlets) s)

/-- One outlet of a berth that a DEPART or MOVE leaves (R20 step 2). -/
def closeForDeparture (o : OutletId) (s : State) : State :=
  let x := s.outlet o
  if x.state = .closing then s
  else if x.state.energised then enterClosing o (if x.plugTaken then .plugged else .vacant) none s
  else reevaluate o s

/-- The outlets of a berth that a DEPART or MOVE leaves still to be read (R20 step 2). -/
def State.outletsToRead (s : State) (b : BerthId) : List OutletId :=
  (ascending (s.berth b).outlets).filter (fun o => (s.outlet o).state.energised)

/-- The berth's outlets are closed or evaluated again, each as it comes, in one ascending pass; the rules order the re-evaluations
alone, and the pass is the model's choice (R20 step 2, R91; log entry 47). -/
def closeBerthOutlets (b : BerthId) (s : State) : State :=
  reconsider s (forEach closeForDeparture (ascending (s.berth b).outlets) s)

/-! ### Credit stop (R43, R101) -/

/-- An account enters credit stop: each ON outlet billing it becomes GRACE (R101), in ascending order: the model's choice (log
entry 47). -/
def powerCreditStop (a : AccountId) (s : State) : State :=
  reconsider s (forEach enterGrace
    (s.outletsWhere (fun x => decide (x.state = .on) && decide (x.billing = some a))) s)

/-- A GRACE outlet of a restored account becomes ON (R101). -/
def leaveGrace (o : OutletId) (s : State) : State :=
  putOutlet o { s.outlet o with state := .on, graceTimer := none } s

/-- An account leaves credit stop: its GRACE outlets become ON, and the permits of outlets PLUGGED with reason CREDIT whose
billing account or whose stay's account it is are evaluated again (R91, R101). Each of the two is an ascending pass, GRACE
first: the model's choice (log entry 47). -/
def powerRestoration (a : AccountId) (s : State) : State :=
  let s1 := forEach leaveGrace (s.outletsWhere (fun x => decide (x.state = .grace) && decide (x.billing = some a))) s
  let waiting := (s1.outletsWhere (fun x => decide (x.state = .plugged) && decide (x.reason = some .credit))).filter
    (fun o => decide ((s1.outlet o).billing = some a) ||
      (match s1.outletStay o with | some t => decide ((s1.stay t).settings.account = a) | none => false))
  reconsider s (forEach reevaluate waiting s1)

end Sys2Proof.Machine
end

