-- ==== Sys2Proof/Machine/Water.lean ====
section
/-! DEFINITION. The Water Service's shared operations (chapter 7): what a tap shows in its post's image, its closings, and what
the other blocks' events do to it. -/

namespace Sys2Proof.Machine

/-- The Water Service writes the post's display code for a tap: 64 + 16 × tap index + condition (R126). -/
def displayTap (t : TapId) (condition : Nat) (s : State) : State :=
  match (s.tap t).post with
  | some st => showWater st (64 + 16 * (s.tap t).tapIndex.val + condition) s
  | none => s

/-- A tap record whose state changes is written, with its valve in the post's image, the display code, and the post's place on
the attention list (R126). -/
def putTap (t : TapId) (x : Tap) (condition : Nat) (s : State) : State :=
  let s := s.setTap t x
  let s := match x.post with
    | some st => modifyImage st (fun im => { im with taps := im.taps.set x.tapIndex (decide (x.state = .open)) }) s
    | none => s
  refreshNamed x.post (displayTap t condition s)

/-- Every closing of an OPEN tap (R130). -/
def closeTap (t : TapId) (st : TapState) (condition : Nat) (s : State) : State :=
  putTap t { s.tap t with state := st, runTimer := none, finalOwed := true } condition s

/-- The allowance stay of a tap as a charge names it: while that stay is ARRIVED or DEPARTING (R128 step 4). -/
def State.allowanceStay (s : State) (t : TapId) : Option StayId :=
  match (s.tap t).allowanceStay with
  | some y => if (s.stay y).state = .arrived ∨ (s.stay y).state = .departing then some y else none
  | none => none

/-- Whether a free allowance is left to a tap (R128). -/
def State.freeWaterLeft (s : State) (t : TapId) : Bool :=
  match s.allowanceStay t with
  | some y => decide ((s.stay y).allowanceLeft > 0)
  | none => false

/-- The ids of the taps that satisfy a condition, ascending. -/
def State.tapsWhere (s : State) (p : Tap → Bool) : List TapId :=
  (entries s.water.taps).filterMap (fun e => if p e.2 then some e.1 else none)

/-- An account enters credit stop: each OPEN tap billing it closes, but for one with free allowance left (R130). The taps are
taken in ascending id, which is the model's choice (log entry 41). -/
def waterCreditStop (a : AccountId) (s : State) : State :=
  forEach (fun t s => if s.freeWaterLeft t then s else closeTap t .closed 3 s)
    (s.tapsWhere (fun x => decide (x.state = .open) && decide (x.billing = some a))) s

/-- Whether the berth's tap is OPEN, so that a DEPART or MOVE waits for its reading (R20 step 3). -/
def State.tapToRead (s : State) (b : BerthId) : Option TapId :=
  match (s.berth b).tap with
  | some t => if (s.tap t).state = .open then some t else none
  | none => none

/-- The berth's tap is closed at a DEPART or MOVE (R130). -/
def closeBerthTap (b : BerthId) (s : State) : State :=
  match s.tapToRead b with
  | some t => closeTap t .closed 0 s
  | none => s

/-- At an arrival and at a MOVE into the berth a CLOSED tap with final owed clear shows condition 0 (R129). -/
def welcomeTap (b : BerthId) (s : State) : State :=
  match (s.berth b).tap with
  | some t => if (s.tap t).state = .closed ∧ (s.tap t).finalOwed = false then displayTap t 0 s else s
  | none => s

/-- The tap is settled on its last known counter (R130). -/
def settleTap (t : TapId) (s : State) : State :=
  s.setTap t { s.tap t with estimated := true, allowanceStay := none }

/-- A tap loses its allowance stay (R130). -/
def dropAllowanceStay (t : TapId) (s : State) : State := s.setTap t { s.tap t with allowanceStay := none }

/-- When a stay becomes EMPTY, each tap that still names it as its allowance stay loses it (R23, R130). -/
def forgetAllowanceStay (y : StayId) (s : State) : State :=
  forEach dropAllowanceStay (s.tapsWhere (fun x => decide (x.allowanceStay = some y))) s

/-- A tap's leak count becomes 0. -/
def resetLeakCount (t : TapId) (s : State) : State := s.setTap t { s.tap t with leakCount := 0 }

/-- A change of the state of a station that taps name as their post: the leak count of each of them becomes 0 (R132; log entry
42). -/
def waterStationChanged (st : StationId) (s : State) : State :=
  forEach resetLeakCount (s.tapsWhere (fun x => decide (x.post = some st))) s

end Sys2Proof.Machine
end

