-- ==== Sys2Proof/Machine/Ledger.lean ====
section
/-! DEFINITION. The Account and Tariff Unit's shared operations (chapter 3): announcements of credit stop, the charge
computation and the hold slots. -/

namespace Sys2Proof.Machine

/-! ### Announcements (R43) -/

/-- A stop reaches the Shore Power Unit and then the Water Service, as R72 orders their display codes; fuel and gates keep no
record of it (R43, R142, R161). -/
def announceStop (a : AccountId) (s : State) : State := waterCreditStop a (powerCreditStop a s)

/-- A restoration reaches the Shore Power Unit; it reopens no tap (R130) and changes no record of fuel or gates (R43). -/
def announceRestoration (a : AccountId) (s : State) : State := powerRestoration a s

/-- What is announced at the end of an operation: the passage of the account into or out of credit stop, seen against
`stopped`, whether it stood in credit stop before (R43). -/
def announce (a : AccountId) (stopped : Bool) (s : State) : State :=
  match stopped, s.inCreditStop a with
  | false, true => announceStop a s
  | true, false => announceRestoration a s
  | _, _ => s

/-- The end of an operation that changed an account: flags, then announcement (R41 to R43). -/
def settleAccount (a : AccountId) (stopped : Bool) (s : State) : State := announce a stopped (evaluateFlags a s)

/-! ### The charge computation (R55 to R58) -/

/-- Stage 1: the effective price, rounded half-up to whole points (R55). -/
def effectivePrice (base : Nat) (adjustment : Int) : Nat := (((base : Int) * (100 + adjustment) + 50) / 100).toNat

/-- The residue of a service (R57). -/
def Account.residue (a : Account) : Service → Nat
  | .power => a.residuePower
  | .water => a.residueWater
  | .fuel => a.residueFuel
  | .berth => a.residueBerth

def Account.withResidue (a : Account) (v : Service) (r : Nat) : Account :=
  match v with
  | .power => { a with residuePower := r }
  | .water => { a with residueWater := r }
  | .fuel => { a with residueFuel := r }
  | .berth => { a with residueBerth := r }

/-- Stages 2 to 4 at an effective price: the cents charged and the state, before the flags (R55). A quantity of 0 changes
nothing. -/
def chargeAmount (a : AccountId) (v : Service) (q price : Nat) (s : State) : Nat × State :=
  if q = 0 then (0, s)
  else
    let x := s.account a
    let m := q * price + x.residue v
    let c := m / Config.pointsPerCent
    (c, (lowerBalance a c (s.setAccount a (x.withResidue v (m % Config.pointsPerCent)))).2)

/-- A whole charge at a base price, flags and announcement with it: the cents and the state (R55). -/
def charge (a : AccountId) (v : Service) (q base : Nat) (s : State) : Nat × State :=
  if q = 0 then (0, s)
  else
    let stopped := s.inCreditStop a
    let r := chargeAmount a v q (effectivePrice base (s.account a).adjustment) s
    (r.1, settleAccount a stopped r.2)

/-- The power price of R54 as the clock stands. -/
def State.powerPrice (s : State) : Nat :=
  let t := s.ledger.tariff
  if !s.clock.isSet || inWindow s.timeOfDay t.dayStart t.dayEnd true then t.powerDay else t.powerNight

/-- A POWER charge: the price is chosen when the computation begins, and an unset clock is noted (R54). -/
def chargePower (a : AccountId) (q : Nat) (s : State) : State :=
  let s := noteClockUse s
  (charge a .power q s.powerPrice s).2

/-- A WATER charge: the free part comes off the named stay's allowance remaining, and the rest is charged (R58). -/
def chargeWater (a : AccountId) (stay : Option StayId) (q : Nat) (s : State) : State :=
  match stay with
  | some y =>
    let free := min q (s.stay y).allowanceLeft
    let s := s.setStay y { s.stay y with allowanceLeft := (s.stay y).allowanceLeft - free }
    (charge a .water (q - free) s.ledger.tariff.water s).2
  | none => (charge a .water q s.ledger.tariff.water s).2

/-! ### Holds (R48 to R52) -/

/-- A slot takes a hold, and its account's held total rises by the amount (R48). -/
def fillHold (h : HoldSlot) (x : HoldRecord) (s : State) : State :=
  let a := s.account x.account
  (s.setHoldSlot h (some x)).setAccount x.account { a with heldTotal := a.heldTotal + x.amount }

/-- A slot is emptied, and its account's held total falls by the amount (R48). -/
def emptyHold (h : HoldSlot) (s : State) : State :=
  match s.holdSlot h with
  | some x =>
    let a := s.account x.account
    (s.setHoldSlot h none).setAccount x.account { a with heldTotal := a.heldTotal - x.amount }
  | none => s

/-- A release as an operation of its own: the flags are evaluated and a restoration announced (R50, R51, R52). -/
def releaseHoldSlot (h : HoldSlot) (s : State) : State :=
  match s.holdSlot h with
  | some x => settleAccount x.account (s.inCreditStop x.account) (emptyHold h s)
  | none => s

/-- A placing as an operation of its own (R49, R52). -/
def placeHold (h : HoldSlot) (x : HoldRecord) (s : State) : State :=
  settleAccount x.account (s.inCreditStop x.account) (fillHold h x s)

end Sys2Proof.Machine
end

