-- ==== Sys2Proof/Machine/Register.lean ====
section
/-! DEFINITION. The shared operations of the Berth Register and the Fit Engine (chapters 1 and 2): commitment and eligibility,
the arrivals list, the engine's queue and scan, arrivals, clearing, and the end of a stay's guest credentials. -/

namespace Sys2Proof.Machine

/-! ### Commitment and eligibility (R2, R12) -/

/-- Whether a berth's current stay holds or occupies it (R2). -/
def Berth.taken (b : Berth) : Bool := decide (b.state = .held) || decide (b.state = .occupied)

/-- The committed amps of a pontoon, computed from the berth and stay tables (R2). -/
def State.committedAmps (s : State) (p : PontoonId) : Nat :=
  s.register.berths.toList.foldl
    (fun n b => if b.taken && decide (b.pontoon = p) then
        n + (match b.currentStay with | some y => (s.stay y).settings.power.amps | none => 0)
      else n) 0

/-- The vessel values of a stay's settings part (R30). -/
def StaySettings.fit (v : StaySettings) : FitValues :=
  { loa := v.loa, beam := v.beam, draft := v.draft, power := v.power, prefs := v.prefs }

/-- Conditions 1 to 7 of R12 for a berth, with the part of the committed amps of its pontoon that counts as removed. -/
def eligibility (s : State) (v : FitValues) (b : BerthId) (removed : Nat) : List (Nat × Bool) :=
  let x := s.berth b
  [(1, decide (x.state = .free)),
   (2, decide (v.loa ≤ x.maxLoa)),
   (3, decide (v.beam ≤ x.maxBeam)),
   (4, decide (v.draft + s.settings.keel ≤ x.depth)),
   (5, decide (v.prefs = 0) || v.prefs.getLsbD x.pontoon.val),
   (6, decide (v.power = .none) || x.outlets.any (fun o => decide (v.power.amps ≤ (s.outlet o).rating))),
   (7, decide (s.committedAmps x.pontoon - removed + v.power.amps ≤ (s.pontoon x.pontoon).commitLimit))]

/-- The number of the first condition that fails. -/
def firstFailing (l : List (Nat × Bool)) : Option Nat := (l.find? (fun c => !c.2)).map (·.1)

/-- The reason of a failed condition (R12). -/
def conditionReason (n : Nat) : Reason := if n = 1 then .state else if n = 7 then .full else .badValue

/-- What a stay's class counts for on the pontoon of berth `b`, where the stay holds or occupies a berth of the same pontoon
(R12, condition 7 for a MOVE or a stay write). -/
def State.ownClassOn (s : State) (y : StayId) (b : BerthId) : Nat :=
  match (s.stay y).berth with
  | some c => if (s.berth c).pontoon = (s.berth b).pontoon ∧ (s.berth c).taken then (s.stay y).settings.power.amps else 0
  | none => 0

/-! ### The arrivals list (R8) -/

/-- Whether stay `y` stands before stay `z` on the arrivals list: by arrival time, then by id (R8). -/
def State.arrivesBefore (s : State) (y z : StayId) : Bool :=
  let a := (s.stay y).settings.arrival
  let b := (s.stay z).settings.arrival
  decide (a < b) || (decide (a = b) && decide (y < z))

def insertArrival (s : State) (y : StayId) : List StayId → List StayId
  | [] => [y]
  | z :: l => if s.arrivesBefore y z then y :: z :: l else z :: insertArrival s y l

/-- A stay's lead mark (R28). -/
def setLeadMark (y : StayId) (m : Bool) (s : State) : State :=
  s.setEngine { s.engine with leadMarks := s.engine.leadMarks.set y m }

/-- A stay takes its place on the arrivals list, and its lead mark is cleared (R8, R28). -/
def joinArrivals (y : StayId) (s : State) : State :=
  setLeadMark y false (s.setArrivals (insertArrival s y (s.arrivals.filter (· ≠ y))))

def leaveArrivals (y : StayId) (s : State) : State := s.setArrivals (s.arrivals.filter (· ≠ y))

/-! ### The Fit Engine (R27 to R37) -/

/-- An attempt begins: the subject's values are captured and the walk stands at berth 0 (R30). -/
def beginAttempt (n : Nat) (y : StayId) (s : State) : State :=
  s.setEngine { s.engine with scan := some { attempt := n, position := 0, walked := false,
                                             captured := (s.stay y).settings.fit, best := none, freeSeen := 0 } }

/-- When the scan is idle and the queue holds an entry, the head becomes the subject and its attempt 1 begins (R27). -/
def beginNext (s : State) : State :=
  match s.engine.scan, s.engine.queue with
  | none, e :: _ => beginAttempt 1 e.stay s
  | _, _ => s

/-- Filling of free places is tried: with a place free and stays on the list, the due test uses the clock (R27, R28;
log entry 13). The submissions themselves are the rows RESUBMISSION and LEAD_SUBMISSION. -/
def tryFilling (s : State) : State :=
  if s.engine.queue.length < Config.allocationPlaces ∧ s.arrivals ≠ [] then noteClockUse s else s

/-- Whether a clock value stands at or beyond a stay's arrival time minus an allocation lead in hours (R28). -/
def Stay.leadReached (x : Stay) (t lead : Nat) : Bool := decide (x.settings.arrival ≤ t + lead * 3600)

/-- Whether a clock event has met a stay's deadline for an allocation lead: it met that of this lead, or of a smaller one, which
comes later (R28, R185; log entry 34). -/
def Stay.leadWasMet (x : Stay) (lead : Nat) : Bool := x.leadMet.any (fun l => decide (l ≤ lead))

/-- Whether a stay of the arrivals list is due for lead submission (R28): the clock stands at or beyond its deadline, or a clock
event has met it, and it then stays met when the clock is set back (R185). A stay whose lapse is met is not due (R28, R185). -/
def State.leadDue (s : State) (y : StayId) : Bool :=
  s.clock.isSet && s.arrivals.contains y && !s.engine.leadMarks[y] &&
  ((s.stay y).leadReached s.clock.value s.settings.lead || (s.stay y).leadWasMet s.settings.lead) && !(s.stay y).lapseMet

/-- The subject that is due has had its entry: its lead mark is set, so that it is not submitted again (R28). -/
def markSubject (s : State) : State :=
  match s.engine.queue with
  | e :: _ => if s.leadDue e.stay then setLeadMark e.stay true s else s
  | [] => s

/-- The head entry leaves the queue, the scan becomes idle, and the next entry begins (R27). -/
def endScan (s : State) : State :=
  let s := markSubject s
  tryFilling (beginNext (s.setEngine { s.engine with queue := s.engine.queue.tail, scan := none }))

/-- An entry joins the tail of the queue, and begins at once when the scan is idle (R26, R28, R29). -/
def enqueueFit (e : FitEntry) (s : State) : State :=
  beginNext (s.setEngine { s.engine with queue := s.engine.queue ++ [e] })

/-- Whether a stay has an entry in the request queue (R25). -/
def State.fitQueued (s : State) (y : StayId) : Bool := s.engine.queue.any (fun e => decide (e.stay = y))

/-- A stay that leaves the arrivals list while it has a queue entry loses that entry, with CONTENDED (R35). -/
def contend (y : StayId) (cause : ContendedCause) (s : State) : State :=
  if s.fitQueued y then
    let e := s.engine
    let subject := match e.queue with | x :: _ => decide (x.stay = y) | [] => false
    let s := s.setEngine { e with queue := e.queue.filter (fun x => decide (x.stay ≠ y)),
                                  scan := if subject then none else e.scan }
    tryFilling (beginNext (raise (.contended y cause none 0) s))
  else s

/-- A berth that becomes FREE counts as a freed berth (R29). -/
def countFreed (s : State) : State :=
  tryFilling (s.setEngine { s.engine with resubmit := min Config.resubmitLimit (s.engine.resubmit + 1) })

/-! ### Holding a berth (R13) -/

/-- The effects of an accepted ASSIGN and of a placement (R13, R32). -/
def holdBerth (y : StayId) (b : BerthId) (s : State) : State :=
  let s := s.setBerth b { s.berth b with state := .held, currentStay := some y }
  leaveArrivals y (s.setStay y { s.stay y with berth := some b, unplaced := false })

/-- A HELD berth is given up and becomes FREE (R14, R15, R16). -/
def giveUpBerth (b : BerthId) (s : State) : State :=
  countFreed (s.setBerth b { s.berth b with state := .free, currentStay := none })

/-! ### Guest credentials of an ended stay (R157) -/

/-- One credential at its stay's end. -/
def Credential.leaveStay (c : Credential) (expiry : Option Nat) : Credential :=
  { c with state := .exitOnly, stay := none, exitExpiry := expiry, expiryMet := false }

/-- Whether a stay's end changes a credential (R157). -/
def Credential.guestOf (c : Credential) (y : StayId) : Bool :=
  decide (c.kind = .guest) && decide (c.stay = some y) &&
  (decide (c.state = .active) || decide (c.state = .suspended))

/-- The slots whose credential satisfies a condition, ascending. -/
def State.credentialsWhere (s : State) (p : Credential → Bool) : List CredentialSlot :=
  (entries s.access.credentials).filterMap
    (fun e => match e.2 with | some c => if p c then some e.1 else none | none => none)

/-- One guest credential at its stay's end, with the exit expiry it is given. -/
def endGuest (expiry : Option Nat) (i : CredentialSlot) (s : State) : State :=
  s.setCredential i ((s.credential i).map (fun c => c.leaveStay expiry))

/-- R157: the guest credentials of a stay that is cancelled, has lapsed or has departed. While the clock is unset no exit
expiry is given, which is a use of the clock (R187). -/
def endGuests (y : StayId) (s : State) : State :=
  let slots := s.credentialsWhere (fun c => c.guestOf y)
  let expiry := if s.clock.isSet then some (s.clock.value + s.settings.exitGrace * 60) else none
  let s := if slots.isEmpty then s else noteClockUse s
  forEach (endGuest expiry) slots s

/-! ### Arrival (R17, R18) -/

/-- R17: the stay becomes ARRIVED at its berth. -/
def arriveAt (y : StayId) (b : BerthId) (cause : ArrivalCause) (s : State) : State :=
  let x := s.stay y
  let s := s.setStay y { x with state := .arrived, lastNight := s.currentDay, allowanceLeft := x.settings.allowance,
                                lapseMet := false, overstayMet := false }
  let s := s.setBerth b { s.berth b with state := .occupied }
  welcomeTap b (reevaluateBerth b (raise (.stayArrived y b cause) s))

/-- R18: a stay with AUTO_ARRIVE that is EXPECTED and holds berth `b` arrives by itself. -/
def autoArrive (y : StayId) (b : BerthId) (cause : ArrivalCause) (s : State) : State :=
  let x := s.stay y
  if x.state = .expected ∧ x.berth = some b ∧ (s.berth b).state = .held ∧ x.settings.autoArrive then arriveAt y b cause s
  else s

/-! ### Clearing (R20 to R24) -/

/-- R23: a berth whose outstanding set is empty ends its clearing. -/
def endClearing (b : BerthId) (s : State) : State :=
  let x := s.berth b
  if x.state = .clearing ∧ x.outstanding = [] then
    let s := match x.departingStay with
      | some y =>
        let s := raise (.departed y b (s.stay y).settings.account x.estimated) s
        forgetAllowanceStay y (s.setStay y Stay.emptied)
      | none => s
    let s := s.setBerth b { s.berth b with state := .free, departingStay := none, estimated := 0 }
    reevaluateBerth b (countFreed s)
  else s

/-- Steps 1 to 4 of R20 and steps 2 and 4 of R24: the berth becomes CLEARING, its outlets and tap are closed, and the
outstanding set is formed and timed. -/
def beginClearing (b : BerthId) (departing : Option StayId) (s : State) : State :=
  let items := (s.outletsToRead b).map ReadItem.outlet ++ (s.tapToRead b).toList.map ReadItem.tap
  let s := s.setBerth b { s.berth b with state := .clearing, currentStay := none, departingStay := departing }
  let s := closeBerthTap b (closeBerthOutlets b s)
  s.setBerth b { s.berth b with outstanding := items.map (fun i => { item := i, endAt := s.after Config.finalReadMs }),
                                estimated := 0 }

/-- An item leaves its berth's outstanding set, and the clearing may end (R21, R22). -/
def dropOutstanding (b : BerthId) (i : ReadItem) (s : State) : State :=
  let x := s.berth b
  endClearing b (s.setBerth b { x with outstanding := x.outstanding.filter (fun r => decide (r.item ≠ i)) })

/-- The berth of an item (R3). -/
def State.itemBerth (s : State) : ReadItem → Option BerthId
  | .outlet o => (s.outlet o).berth
  | .tap t => (s.tap t).berth

/-- Whether an item stands in its berth's outstanding set. -/
def Berth.awaits (b : Berth) (i : ReadItem) : Bool := b.outstanding.any (fun r => decide (r.item = i))

/-- R21: a final reading is reported to the Register. -/
def reportFinalRead (i : ReadItem) (s : State) : State :=
  match s.itemBerth i with
  | some b => if (s.berth b).awaits i then dropOutstanding b i s else s
  | none => s

/-- The settlement of an item on its last known counter (R22, R104, R130). -/
def settleItem (i : ReadItem) (s : State) : State :=
  match i with
  | .outlet o => s.setOutlet o { s.outlet o with estimated := true }
  | .tap t => settleTap t s

/-! ### Overstay (R19) -/

/-- R19: OVERSTAY_NOTED is set and OVERSTAY raised. -/
def noteOverstay (y : StayId) (s : State) : State :=
  let x := s.stay y
  raise (.overstay y x.berth x.settings.departure)
    (s.setStay y { x with overstayNoted := true, overstayMet := false })

/-- A new departure time of an ARRIVED stay against the clock (R10, R11, R19). While the clock is unset no overstay is found, and
the test is a use of the clock (R187; log entry 13). -/
def departureRewritten (y : StayId) (s : State) : State :=
  let x := s.stay y
  if x.state ≠ .arrived then s
  else if ¬ s.clock.isSet then noteClockUse s
  else if s.clock.value < x.settings.departure then s.setStay y { x with overstayNoted := false, overstayMet := false }
  else if x.overstayNoted then s
  else noteOverstay y s

end Sys2Proof.Machine
end

