-- ==== Sys2Proof/Machine/Layouts.lean ====
section
/-! DEFINITION. The layouts of chapter 12: how fields are coded (R193), the check (R196), the branch telegrams (R194), and the
payloads, notices and records that cross the trunk (R195), with the record tables that READ RECORDS and WRITE RECORD name. -/

namespace Sys2Proof.Machine

/-! ### Field coding (R193) -/

/-- A number in `n` bytes, low-order byte first. -/
def le : Nat → Nat → List Byte
  | 0, _ => []
  | n + 1, v => BitVec.ofNat 8 v :: le n (v / 256)

/-- A signed number in `n` bytes, two's complement, low-order byte first. -/
def leInt (n : Nat) (v : Int) : List Byte := le n (v % ((256 ^ n : Nat) : Int)).toNat

/-- A yes/no field. A flag that stands alone among the fields of a record, set or clear, is coded as one too, 1 for set: the model's
choice (log entry 46). -/
def yn (b : Bool) : List Byte := [if b then 1 else 0]

/-- The number of a group of flags, bit 0 for the first. -/
def groupNat : List Bool → Nat
  | [] => 0
  | b :: l => (if b then 1 else 0) + 2 * groupNat l

/-- A group of flags in one byte. -/
def flagGroup (l : List Bool) : List Byte := [BitVec.ofNat 8 (groupNat l)]

/-- The value bytes of an absent field of `n` bytes: all ones (R193). -/
def absent (n : Nat) : List Byte := List.replicate n 255

/-- An optional field in `n` bytes, all ones when absent (R193). -/
def opt (n : Nat) : Option Nat → List Byte
  | some v => le n v
  | none => absent n

/-- An optional field of `n` bytes behind a presence byte: its value bytes, all ones when it is absent (R193). -/
def presence (n : Nat) : Option (List Byte) → List Byte
  | some v => 1 :: v
  | none => 0 :: absent n

/-- An optional number in `n` bytes behind a presence byte (R193). -/
def present (n : Nat) (v : Option Nat) : List Byte := presence n (v.map (le n))

/-- A timer: running 0, stopped 1 (log entry 19). -/
def timerByte (t : Option Nat) : List Byte := [if t.isSome then 0 else 1]

/-- A number read from `n` bytes at position `i`, low-order byte first. -/
def rd (bs : List Byte) (i : Nat) : Nat → Nat
  | 0 => 0
  | n + 1 => (bs.getD i 0).toNat + 256 * rd bs (i + 1) n

/-- An optional number in `n` bytes: absent when all ones. -/
def rdOpt (bs : List Byte) (i n : Nat) : Option Nat :=
  let v := rd bs i n
  if v = 256 ^ n - 1 then none else some v

/-- An optional number in `n` bytes behind a presence byte; none where that byte is neither 0 nor 1. -/
def rdPresent (bs : List Byte) (i n : Nat) : Option (Option Nat) :=
  (yesNo (rd bs i 1)).map (fun p => if p then some (rd bs (i + 1) n) else none)

/-! ### The check (R196) -/

/-- One shift of the check register. -/
def crcShift (r : BitVec 16) : BitVec 16 := if r.getLsbD 15 then (r <<< 1) ^^^ 0x1021 else r <<< 1

/-- One byte into the check register. -/
def crcByte (r : BitVec 16) (b : Byte) : BitVec 16 :=
  crcShift (crcShift (crcShift (crcShift (crcShift (crcShift (crcShift (crcShift (r ^^^ (b.setWidth 16 <<< 8)))))))))

/-- The check of a run of bytes. -/
def crc16 (bs : List Byte) : BitVec 16 := bs.foldl crcByte 0xFFFF

/-- A telegram: its bytes followed by their check, low byte first. -/
def withCheck (bs : List Byte) : List Byte := bs ++ le 2 (crc16 bs).toNat

/-! ### Requests received (R172, R195) -/

/-- The bytes of a REQUEST over which its check is computed: node, kind, tag, code, length and payload (R172, R196). -/
def requestBytes (h : ReqHeader) (code : Nat) (p : List Byte) : List Byte :=
  [BitVec.ofNat 8 h.node, 1, BitVec.ofNat 8 h.tag, BitVec.ofNat 8 code, BitVec.ofNat 8 h.length] ++ p

/-- The check is correct and the length equals the number of payload characters received (R172, R196). -/
def soundRequest (h : ReqHeader) (code : Nat) (p : List Byte) : Bool :=
  decide (h.length = p.length) && decide (h.check = (crc16 (requestBytes h code p)).toNat)

/-- The header, request code and payload of a received telegram; none for one that is too short or of kind ANSWER (R172). -/
def readTelegram (bs : List Byte) : Option (ReqHeader × Nat × List Byte) :=
  if 7 ≤ bs.length ∧ rd bs 1 1 = 1 then
    some ({ node := rd bs 0 1, tag := rd bs 2 1, length := rd bs 4 1, check := rd bs (bs.length - 2) 2 }, rd bs 3 1,
          (bs.drop 5).take (bs.length - 7))
  else none

/-- The least and greatest payload length of a request code; none for a code of no request (R175, R195). The lengths of a
WRITE RECORD follow the table that it names (R180). -/
def requestLength : Nat → Option (Nat × Nat)
  | 0x01 => some (0, 0)
  | 0x02 => some (0, 0)
  | 0x03 => some (4, 4)
  | 0x04 => some (0, 0)
  | 0x05 => some (3, 120)
  | 0x06 => some (3, 51)
  | 0x10 => some (27, 27)
  | 0x11 => some (4, 4)
  | 0x12 => some (2, 2)
  | 0x13 => some (2, 2)
  | 0x14 => some (2, 2)
  | 0x15 => some (6, 6)
  | 0x16 => some (2, 2)
  | 0x17 => some (4, 4)
  | 0x18 => some (2, 2)
  | 0x19 => some (2, 2)
  | 0x1A => some (2, 2)
  | 0x20 => some (16, 16)
  | 0x21 => some (2, 2)
  | 0x22 => some (2, 2)
  | 0x23 => some (2, 2)
  | 0x24 => some (6, 6)
  | 0x25 => some (6, 6)
  | 0x26 => some (2, 2)
  | 0x27 => some (11, 11)
  | 0x28 => some (2, 2)
  | 0x30 => some (2, 2)
  | 0x31 => some (2, 2)
  | 0x32 => some (2, 2)
  | 0x38 => some (2, 2)
  | 0x39 => some (2, 2)
  | 0x3C => some (2, 2)
  | 0x3D => some (2, 2)
  | 0x40 => some (9, 9)
  | 0x41 => some (2, 2)
  | 0x42 => some (2, 2)
  | 0x43 => some (2, 2)
  | 0x44 => some (6, 6)
  | 0x45 => some (6, 6)
  | 0x46 => some (0, 0)
  | 0x47 => some (2, 2)
  | 0x50 => some (0, 0)
  | 0x51 => some (0, 0)
  | 0x52 => some (4, 4)
  | 0x53 => some (2, 2)
  | 0x60 => some (8, 8)
  | 0x61 => some (0, 0)
  | 0x62 => some (0, 0)
  | 0x63 => some (0, 0)
  | _ => none

/-- Whether a payload has a length of its code's layout; a code of no request has none to fail (R175). -/
def lengthFits (code : Nat) (p : List Byte) : Bool :=
  (requestLength code).all (fun l => decide (l.1 ≤ p.length) && decide (p.length ≤ l.2))

/-! ### Branch telegrams sent (R64, R73, R194) -/

/-- One outlet entry of a post image. -/
def OutletImage.byte (x : OutletImage) : Byte := BitVec.ofNat 8 ((if x.on then 128 else 0) + x.code)

/-- The image payload of a station, by its kind (R72, R194). -/
def Station.imagePayload (x : Station) : List Byte :=
  match x.kind with
  | .post =>
    (x.image.outlets.toList.take (x.outletCount.getD 0)).map OutletImage.byte ++
    (x.image.taps.toList.take (x.tapCount.getD 0)).map (fun v => if v then 1 else 0) ++ le 1 x.image.postDisplay
  | .gateReader => le 1 x.image.lock.ctorIdx ++ le 1 x.image.gateDisplay
  | .dispenser => flagGroup [x.image.enable, x.image.stop] ++ le 4 x.image.preset ++ le 4 x.image.price
  | _ => []

/-- The event byte of a POLL: the taken event number with TAKEN_VALID (R73). -/
def Station.pollEvent (x : Station) : Byte :=
  match x.lastTaken with
  | some n => BitVec.ofNat 8 (128 + n.val)
  | none => 0

/-- The POLL of a station: its image and the taken event number (R72, R73). -/
def Station.poll (x : Station) : List Byte :=
  withCheck ([BitVec.ofNat 8 x.address, 1, x.pollEvent, BitVec.ofNat 8 x.imagePayload.length] ++ x.imagePayload)

/-- The RELAY that carries an entry to its station (R80). -/
def RelayEntry.telegram (e : RelayEntry) (address : Nat) : List Byte :=
  withCheck ([BitVec.ofNat 8 address, 3, BitVec.ofNat 8 e.code, BitVec.ofNat 8 e.payload.length] ++ e.payload)

/-! ### Branch telegrams received (R64, R66, R80, R194) -/

/-- The event byte and the payload of a reply that is good but for what its payload says: its check is correct, its address and
kind are those awaited, and its length lies within 0 to 48 and equals the number of payload characters (R66, R80). -/
def replyParts (address kind : Nat) (bs : List Byte) : Option (Byte × List Byte) :=
  let n := bs.length - 6
  if 6 ≤ bs.length ∧ n ≤ Config.branchPayloadMax ∧ rd bs 0 1 = address ∧ rd bs 1 1 = kind ∧ rd bs 3 1 = n ∧
      rd bs (n + 4) 2 = (crc16 (bs.take (n + 4))).toNat then
    some (bs.getD 2 0, (bs.drop 4).take n)
  else none

/-- The kinds of a station's telegrams (R194). -/
def kindReport : Nat := 2
def kindRelayAnswer : Nat := 4

/-- The event byte of a REPORT: number in bits 0 to 3, EVENT in bit 4, STARTED in bit 5; the other bits are ignored (R193,
R194). -/
def eventOfByte (b : Byte) : EventByte :=
  { number := ⟨b.toNat % 16, Nat.mod_lt _ (by decide)⟩, event := b.getLsbD 4, started := b.getLsbD 5 }

/-- What a station's report says, by its kind (R75, R194). -/
inductive Report where
  | post (outlets : List OutletEntry) (taps : List TapEntry) (toggle : Option (Fin 2))
  | reader (doorOpen : Bool) (event : Option ReaderEvent)
  | dispenser (lifted pumping final : Bool) (delivered : Nat) (card : Option CardNumber)
  | monitor (voltage current : Nat) (breakerOpen : Bool)
  deriving DecidableEq, Repr

def rdOutletEntry (p : List Byte) (i : Nat) : OutletEntry :=
  let f := p.getD i 0
  { plug := f.getLsbD 0, energised := f.getLsbD 1, leakage := f.getLsbD 2, overcurrent := f.getLsbD 3,
    current := rd p (i + 1) 1, energy := BitVec.ofNat 32 (rd p (i + 2) 4) }

def rdTapEntry (p : List Byte) (i : Nat) : TapEntry :=
  let f := p.getD i 0
  { valveOpen := f.getLsbD 0, flowing := f.getLsbD 1, flow := BitVec.ofNat 32 (rd p (i + 1) 4) }

/-- A post's report with `n` outlets and `m` taps; a toggled tap lies below the tap count (R66, R75, R194). -/
def readPost (n m : Nat) (event : Bool) (p : List Byte) : Option Report :=
  let outlets := (List.range n).map (fun k => rdOutletEntry p (6 * k))
  let taps := (List.range m).map (fun k => rdTapEntry p (6 * n + 5 * k))
  let stop := 6 * n + 5 * m
  if event then
    if p.length = stop + 1 ∧ rd p stop 1 < m then
      (idOf 2 (rd p stop 1)).map (fun k => .post outlets taps (some k))
    else none
  else if p.length = stop then some (.post outlets taps none)
  else none

/-- The event of a gate reader, by its type; the number is 0 for the exit button (R194; log entry 33). -/
def readCard (type number : Nat) : Option ReaderEvent :=
  match type with
  | 0 => some (.cardIn (BitVec.ofNat 32 number))
  | 1 => some (.cardOut (BitVec.ofNat 32 number))
  | 2 => if number = 0 then some .exitButton else none
  | _ => none

/-- A gate reader's report (R194). -/
def readReader (event : Bool) (p : List Byte) : Option Report :=
  match yesNo (rd p 0 1) with
  | none => none
  | some door =>
    if event then
      if p.length = 6 then (readCard (rd p 1 1) (rd p 2 4)).map (fun e => .reader door (some e)) else none
    else if p.length = 1 then some (.reader door none)
    else none

/-- A dispenser's report (R194). -/
def readDispenser (event : Bool) (p : List Byte) : Option Report :=
  let f := p.getD 0 0
  let report (card : Option CardNumber) : Report :=
    .dispenser (f.getLsbD 0) (f.getLsbD 1) (f.getLsbD 2) (rd p 1 4) card
  if event then
    if p.length = 9 then some (report (some (BitVec.ofNat 32 (rd p 5 4)))) else none
  else if p.length = 5 then some (report none)
  else none

/-- A feeder monitor's report, 5 bytes whatever its flags (R194). -/
def readMonitor (p : List Byte) : Option Report :=
  match yesNo (rd p 4 1) with
  | some breaker => if p.length = 5 then some (.monitor (rd p 0 2) (rd p 2 2) breaker) else none
  | none => none

/-- A station's report read by the layout of its kind and, for a post, of its counts (R66, R194). -/
def Station.readReport (x : Station) (event : Bool) (p : List Byte) : Option Report :=
  match x.kind with
  | .post => readPost (x.outletCount.getD 0) (x.tapCount.getD 0) event p
  | .gateReader => readReader event p
  | .dispenser => readDispenser event p
  | .feederMonitor => readMonitor p
  | .none => none

/-- The event byte of a station's report as the port takes it: a feeder monitor's EVENT flag is treated as clear (R194). -/
def Station.eventByte (x : Station) (b : Byte) : EventByte :=
  let ev := eventOfByte b
  if x.kind = .feederMonitor then { ev with event := false } else ev

/-- The event byte and contents of a good report of a station; none where the reply is no good report (R66). -/
def Station.goodReport (x : Station) (reply : List Byte) : Option (EventByte × Report) :=
  match replyParts x.address kindReport reply with
  | some (e, p) => (x.readReport (x.eventByte e).event p).map (fun r => (x.eventByte e, r))
  | none => none

/-! ### Answers (R174, R195) -/

/-- The answer code and payload of an answer's body. -/
def AnswerBody.coded : AnswerBody → Nat × List Byte
  | .done p => (0, p)
  | .queued => (1, [])
  | .refused r d => (2, le 1 (r.ctorIdx + 1) ++ le 1 d)
  | .busy => (3, [])
  | .unknown => (4, [])

/-- The ANSWER telegram (R172, R195). -/
def Answer.telegram (a : Answer) : List Byte :=
  let c := a.body.coded
  withCheck ([BitVec.ofNat 8 a.node, 2, BitVec.ofNat 8 a.tag, BitVec.ofNat 8 c.1, BitVec.ofNat 8 c.2.length] ++ c.2)

/-! ### Notices (R183, R184, R195) -/

/-- An optional id in a 32-bit value, all ones when there is none. -/
def optValue : Option Nat → Int
  | some v => v
  | none => -1

def itemSort : ReadItem → Nat
  | .outlet _ => 0
  | .tap _ => 1

def itemId : ReadItem → Nat
  | .outlet o => o.val
  | .tap t => t.val

/-- Subject sort and subject id of a notice: STAY 0, BERTH 1, ACCOUNT 2, HOLD_SLOT 3, OUTLET 4, TAP 5, STATION 6, PONTOON 7,
DISPENSER 8, GRADE 9, GATE 10, CREDENTIAL 11, DAY 12, NONE 13 (R183). -/
def Note.subject : Note → Nat × Nat
  | .stayArrived y _ _ => (0, y.val)
  | .stayLapsed y _ _ => (0, y.val)
  | .overstay y _ _ => (0, y.val)
  | .finalReadEstimated b _ => (1, b.val)
  | .departed y _ _ _ => (0, y.val)
  | .stayPlaced y _ _ _ => (0, y.val)
  | .noFit y _ _ _ => (0, y.val)
  | .contended y _ _ _ => (0, y.val)
  | .accountExhausted a _ => (2, a.val)
  | .accountRestored a _ => (2, a.val)
  | .accountLow a _ _ => (2, a.val)
  | .balanceSaturated a _ _ => (2, a.val)
  | .holdExpired h _ _ => (3, h.val)
  | .clockJump d _ _ => (12, d)
  | .rolloverDone d _ _ => (12, d.toNat)
  | .stationOnline st _ _ => (6, st.val)
  | .stationOffline st _ _ _ => (6, st.val)
  | .stationStarted st => (6, st.val)
  | .eventGap st _ _ => (6, st.val)
  | .relayAnswer st _ _ _ _ => (6, st.val)
  | .relayTimeout st _ _ _ => (6, st.val)
  | .relayDropped st _ _ _ => (6, st.val)
  | .relayNoted st _ _ _ => (6, st.val)
  | .relayBlocked st _ _ _ => (6, st.val)
  | .outletTripped o _ _ _ => (4, o.val)
  | .meterJump i _ _ => (4 + itemSort i, itemId i)
  | .feederState p _ _ _ => (7, p.val)
  | .tapLeak t _ _ => (5, t.val)
  | .stockLow g _ _ => (9, g.val)
  | .stockNegative g _ => (9, g.val)
  | .saleRefused d _ _ => (8, d.val)
  | .saleLapsed d _ _ => (8, d.val)
  | .fuelOverrun d _ _ => (8, d.val)
  | .saleSettled d _ _ _ => (8, d.val)
  | .fuelDiscrepancy d _ _ _ => (8, d.val)
  | .fuelEstop _ => (13, 0)
  | .curfewDenied g _ _ => (10, g.val)
  | .curfewEntry g _ _ => (10, g.val)
  | .zoneCorrected c _ _ _ => (11, c.val)
  | .gateForced g _ => (10, g.val)
  | .gateHeldOpen g _ => (10, g.val)
  | .gatesReleased _ => (13, 0)
  | .gatesSecured _ => (13, 0)
  | .clockUnset => (13, 0)
  | .restarted _ => (13, 0)

/-- The values of a notice in the order of R184's table; of two named alternatives the first is 0 and the second 1. -/
def Note.values : Note → List Int
  | .stayArrived _ b c => [b.val, c.ctorIdx]
  | .stayLapsed _ b t => [optValue (b.map (·.val)), t]
  | .overstay _ b t => [optValue (b.map (·.val)), t]
  | .finalReadEstimated _ i => [itemSort i, itemId i]
  | .departed _ b a n => [b.val, a.val, n]
  | .stayPlaced _ b n c => [b.val, n, c.ctorIdx]
  | .noFit _ c n m => [c.ctorIdx, n, m]
  | .contended _ c b n => [c.ctorIdx, optValue (b.map (·.val)), n]
  | .accountExhausted _ v => [v]
  | .accountRestored _ v => [v]
  | .accountLow _ st v => [if st then 0 else 1, v]
  | .balanceSaturated _ h n => [if h then 1 else 0, n]
  | .holdExpired _ a n => [a.val, n]
  | .clockJump _ r p => [r, p]
  | .rolloverDone _ n t => [n, t]
  | .stationOnline _ b a => [b.val, a]
  | .stationOffline _ b a f => [b.val, a, f.ctorIdx]
  | .stationStarted _ => []
  | .eventGap _ l n => [l, n]
  | .relayAnswer _ c st t _ => [c, st, t]
  | .relayTimeout _ c t x => [c, t, x.ctorIdx]
  | .relayDropped _ c t x => [c, t, x.ctorIdx]
  | .relayNoted _ c t x => [c, t, x.ctorIdx]
  | .relayBlocked _ c t x => [c, t, x.ctorIdx]
  | .outletTripped _ c n l => [c.ctorIdx, n, if l then 1 else 0]
  | .meterJump _ a b => [a.toNat, b.toNat]
  | .feederState _ f c m => [f.ctorIdx, c.ctorIdx, m.toNat]
  | .tapLeak _ b n => [optValue (b.map (·.val)), n]
  | .stockLow _ a b => [a, b]
  | .stockNegative _ a => [a]
  | .saleRefused _ r n => [r.ctorIdx + 1, 0, n.toNat]
  | .saleLapsed _ a n => [a.val, n, 0]
  | .fuelOverrun _ a b => [a, b]
  | .saleSettled _ n v c => [n, v, c]
  | .fuelDiscrepancy _ a b n => [a, b, optValue n]
  | .fuelEstop a => [if a then 0 else 1]
  | .curfewDenied _ n k => [n.toNat, k.ctorIdx]
  | .curfewEntry _ n k => [n.toNat, k.ctorIdx]
  | .zoneCorrected _ n a b => [n.toNat, a.val, b.val]
  | .gateForced _ n => [n]
  | .gateHeldOpen _ l => [l.ctorIdx]
  | .gatesReleased c => [c.ctorIdx]
  | .gatesSecured c => [c.ctorIdx]
  | .clockUnset => []
  | .restarted c => [c.ctorIdx]

/-- The payload of a notice: RELAY_ANSWER only (R183). -/
def Note.payload : Note → List Byte
  | .relayAnswer _ _ _ _ p => p
  | _ => []

/-- The notice record of R195. -/
def Notice.coded (n : Notice) : List Byte :=
  let vs := n.note.values
  le 1 (n.note.ctorIdx + 1) ++ le 4 n.time ++ le 1 n.note.subject.1 ++ le 2 n.note.subject.2 ++ le 1 vs.length ++
  leInt 4 (vs.getD 0 0) ++ leInt 4 (vs.getD 1 0) ++ leInt 4 (vs.getD 2 0) ++
  le 1 n.note.payload.length ++ n.note.payload

/-! ### Records (R178, R193) -/

/-- A credential field: presence, slot and number (R195). -/
def credentialField (c : Option (CredentialSlot × CardNumber)) : List Byte :=
  presence 6 (c.map (fun x => le 2 x.1.val ++ le 4 x.2.toNat))

/-- The journal record of R195. -/
def SaleRecord.coded (r : SaleRecord) : List Byte :=
  le 2 r.number ++ le 2 r.dispenser.val ++ le 2 r.grade.val ++ le 2 r.account.val ++ credentialField r.credential ++
  le 4 r.volume ++ le 4 r.price ++ le 4 r.amount ++ le 4 r.authTime ++ le 4 r.settleTime ++
  flagGroup [r.staff, r.overrun, r.stopped, r.estimated, r.clamped]

/-- Result and reason of a passage log record: the reason is the denial's display code less 3 (R195). -/
def PassageResult.coded : PassageResult → List Byte
  | .admitted => [0, 0]
  | .denied r => [1, BitVec.ofNat 8 (r.ctorIdx + 1)]
  | .void => [2, 0]
  | .exit => [3, 0]
  | .released => [4, 0]

/-- The passage log record of R195. -/
def PassageRecord.coded (r : PassageRecord) : List Byte :=
  le 2 r.sequence ++ le 4 r.time ++ le 2 r.gate.val ++ present 4 (r.number.map (·.toNat)) ++ le 1 r.direction.ctorIdx ++
  r.result.coded ++ le 1 r.headcount

def MarinaSettings.coded (m : MarinaSettings) : List Byte :=
  le 1 m.node ++ le 2 m.lead ++ le 2 m.keel ++ le 2 m.exitGrace ++ le 1 m.deglitch ++ le 1 m.tripCount ++
  le 2 m.graceTime ++ le 4 m.leakThreshold ++ opt 2 (m.staffAccount.map (·.val))

def Feeder.coded (f : Feeder) : List Byte :=
  le 1 f.state.ctorIdx ++ le 1 f.admitted.toNat ++ opt 1 (f.shedCause.map (·.ctorIdx)) ++
  opt 1 (f.position.map (·.val)) ++ timerByte f.stepTimer ++ le 1 f.lowCount ++ le 1 f.overCount ++
  le 1 f.healthyCount ++ le 2 f.lastVoltage ++ le 2 f.lastCurrent ++ opt 1 (f.lastBreaker.map (·.ctorIdx))

/-- A pontoon record: settings in the order of R1's table, then committed amps, headcount with UNRELIABLE, a flag of its own byte
(log entry 46), and the feeder part. -/
def pontoonRecord (s : State) (p : PontoonId) : List Byte :=
  let v := s.pontoon p
  yn v.gatePresent ++ le 2 v.capacity ++ le 2 v.reserve ++ le 2 v.commitLimit ++ le 1 v.peopleCapacity ++
  yn v.passbackStrict ++ le 4 v.curfewStart ++ le 4 v.curfewEnd ++ le 1 v.curfewMode ++ le 2 v.vf ++ le 2 v.vr ++
  le 2 (s.committedAmps p) ++ le 1 (s.gate p).headcount ++ yn (s.gate p).unreliable ++ (s.feeder p).coded

/-- A berth record; the outstanding set is a group of flags over the outlet list and the tap (log entry 19). -/
def Berth.coded (b : Berth) : List Byte :=
  le 2 b.pontoon.val ++ le 2 b.maxLoa ++ le 2 b.maxBeam ++ le 2 b.depth ++
  opt 2 ((b.outlets[0]?).map (·.val)) ++ opt 2 ((b.outlets[1]?).map (·.val)) ++ opt 2 (b.tap.map (·.val)) ++
  le 1 b.state.ctorIdx ++ opt 2 (b.currentStay.map (·.val)) ++ opt 2 (b.departingStay.map (·.val)) ++
  flagGroup [(b.outlets[0]?).any (fun o => b.awaits (.outlet o)), (b.outlets[1]?).any (fun o => b.awaits (.outlet o)),
             b.tap.any (fun t => b.awaits (.tap t))] ++
  le 1 b.estimated

/-- Pending final reads of a stay (R6). -/
def State.pendingReads (s : State) (x : Stay) : Nat :=
  match x.state, x.berth with
  | .departing, some b => (s.berth b).outstanding.length
  | _, _ => 0

def stayRecord (s : State) (x : Stay) : List Byte :=
  let v := x.settings
  le 2 v.loa ++ le 2 v.beam ++ le 2 v.draft ++ le 1 v.power.ctorIdx ++ le 1 v.priority.val ++ le 4 v.allowance ++
  le 2 v.account.val ++ le 4 v.arrival ++ le 4 v.departure ++ le 2 v.holdGrace ++ le 2 v.prefs.toNat ++ yn v.autoArrive ++
  le 1 x.state.ctorIdx ++ opt 2 (x.berth.map (·.val)) ++ flagGroup [x.unplaced, x.overstayNoted] ++
  le 4 x.allowanceLeft ++
  presence 4 (x.lastNight.map (leInt 4)) ++
  le 1 (s.pendingReads x)

/-- The allocation record: four places of stay and source, the scan, the resubmit count (R25). The widths that R193 does not
give, two bytes each for the scan's position and best score, are the model's choice, as its places are (log entry 19). -/
def Engine.coded (e : Engine) : List Byte :=
  let place (i : Nat) : List Byte :=
    opt 2 ((e.queue[i]?).map (·.stay.val)) ++ opt 1 ((e.queue[i]?).map (·.source.ctorIdx))
  place 0 ++ place 1 ++ place 2 ++ place 3 ++
  opt 2 (if e.scan.isSome then (e.queue.head?).map (·.stay.val) else none) ++
  opt 1 (e.scan.map (·.attempt)) ++ opt 2 (e.scan.map (·.position.val)) ++
  opt 2 ((e.scan.bind (·.best)).map (·.1.val)) ++ opt 2 ((e.scan.bind (·.best)).map (·.2)) ++ le 1 e.resubmit

def Account.coded (a : Account) : List Byte :=
  le 1 a.kind.ctorIdx ++ le 4 a.creditLimit ++ leInt 1 a.adjustment ++ le 4 a.lowThreshold ++ le 4 a.restoreMargin ++
  le 1 a.state.ctorIdx ++ leInt 4 a.balance ++ le 4 a.heldTotal ++ flagGroup [a.exhausted, a.low, a.saturated] ++
  le 4 a.residuePower ++ le 4 a.residueWater ++ le 4 a.residueFuel ++ le 4 a.residueBerth

/-- Owner of a hold: 0 to 3 for the dispensers, 4 for the office (R48). -/
def HoldOwner.code : HoldOwner → Nat
  | .dispenser d => d.val
  | .office => 4

def HoldRecord.coded (h : HoldRecord) : List Byte :=
  le 2 h.account.val ++ le 4 h.amount ++ le 1 h.owner.code ++ le 4 h.placed ++ present 4 h.expiry

def Tariff.coded (t : Tariff) : List Byte :=
  le 4 t.powerDay ++ le 4 t.powerNight ++ le 4 t.water ++ le 4 t.fuel0 ++ le 4 t.fuel1 ++ le 4 t.berth ++
  le 4 t.dayStart ++ le 4 t.dayEnd

/-- The line state of a branch (R62). While a written rate code waits on an exchange in flight, the line state follows the code in
effect and not the written one: the model's choice (R63; log entry 17). -/
def State.lineState (s : State) (b : BranchId) : LineState :=
  if (s.branch b).activeRate = 0 then .off else if s.trunk.mode = .run then .polling else .relayOnly

/-- A branch record (R62). The relay-spacing mark, set or clear, is a byte of its own, 1 for set: the model's choice (log entry
46). -/
def branchRecord (s : State) (b : BranchId) : List Byte :=
  let x := s.branch b
  le 1 x.rateCode ++ le 1 x.missLimit ++ le 2 x.answerTimeout ++ le 1 x.ratio ++
  le 1 (s.lineState b).ctorIdx ++ opt 1 x.ringPosition ++ le 1 x.slotCount ++ yn x.relayMark ++ le 1 (s.offlineOn b)

/-- A station record with its image (R67, R72). Its address and its last taken event number, for which R193 has no width, are one
byte each, and the start-noted flag is a byte of its own, 1 for set: the model's choices (log entries 19 and 46). -/
def Station.coded (x : Station) : List Byte :=
  le 1 x.kind.ctorIdx ++ le 2 x.branch.val ++ le 1 x.address ++ yn x.enabled ++ opt 1 x.outletCount ++ opt 1 x.tapCount ++
  opt 2 (x.pontoon.map (·.val)) ++
  le 1 x.state.ctorIdx ++ le 1 x.miss ++ le 1 x.skip ++ opt 1 (x.lastTaken.map (·.val)) ++ yn x.startNoted ++
  x.imagePayload

def FilterRecord.coded (f : FilterRecord) : List Byte :=
  le 1 f.query.ctorIdx ++ le 1 f.config.ctorIdx ++ le 1 f.actuate.ctorIdx ++ le 1 f.service.ctorIdx

/-- A QUEUED outlet's position in its start queue (R84). -/
def State.queuePosition (s : State) (o : OutletId) : Option Nat :=
  if (s.outlet o).state = .queued then
    match s.outletPontoon o with
    | some p => (s.start p).queue.findIdx? (fun x => decide (x = o))
    | none => none
  else none

/-- An outlet record with its queue position (R84). The last clear time, for which R193 has neither a width nor a presence byte, is
four bytes of ms, all ones when absent; plug taken, present or absent, is a yes/no field; timers are coded by the order of their
list; the socket index, for which R193 has no width, is one byte; LIMITED, final owed and ESTIMATED, set or clear, are a byte each,
1 for set: the model's choices (log entries 19 and 46). -/
def outletRecord (s : State) (o : OutletId) : List Byte :=
  let x := s.outlet o
  opt 2 (x.post.map (·.val)) ++ le 1 x.socket.val ++ le 2 x.rating ++ opt 2 (x.berth.map (·.val)) ++
  le 1 x.state.ctorIdx ++ opt 1 (x.reason.map (·.ctorIdx)) ++ yn x.plugTaken ++ le 1 x.deglitch ++ le 2 x.granted ++
  opt 2 (x.grantPontoon.map (·.val)) ++ yn x.limited ++ opt 1 (x.target.map (·.ctorIdx)) ++
  opt 2 (x.billing.map (·.val)) ++ timerByte x.startTimer ++ timerByte x.graceTimer ++ le 1 x.overLimit ++
  opt 4 x.lastClear ++ opt 1 (x.lastTrip.map (·.ctorIdx)) ++ present 4 (x.baseline.map (·.toNat)) ++
  yn x.finalOwed ++ yn x.estimated ++ le 2 x.lastCurrent ++ opt 1 (s.queuePosition o)

def startRecord (s : State) (p : PontoonId) : List Byte :=
  let r := s.start p
  le 2 r.startTime ++ le 2 r.startFactor ++ le 2 (s.usedAmps p) ++ leInt 2 (s.headroom p) ++
  opt 2 (r.slot.map (·.val)) ++ le 1 r.queue.length ++ le 1 r.upgrades.length

def programRecord (v : Vector ProgramStep 8) : List Byte :=
  v.toList.flatMap (fun x => le 1 x.delay ++ le 1 x.mask.toNat ++ yn x.endFlag)

/-- A tap record (R124). The tap index, for which R193 has no width, is one byte; final owed and ESTIMATED, set or clear, are a byte
each, 1 for set: the model's choices (log entries 19 and 46). -/
def Tap.coded (t : Tap) : List Byte :=
  opt 2 (t.post.map (·.val)) ++ le 1 t.tapIndex.val ++ le 2 t.maxRun ++ opt 2 (t.berth.map (·.val)) ++
  le 1 t.state.ctorIdx ++ timerByte t.runTimer ++ present 4 (t.baseline.map (·.toNat)) ++ le 1 t.leakCount ++
  opt 2 (t.billing.map (·.val)) ++ opt 2 (t.allowanceStay.map (·.val)) ++ yn t.finalOwed ++ yn t.estimated ++
  le 4 t.lastDelta

/-- A tank record (R133). LOW_STOCK, set or clear, is a byte of its own, 1 for set: the model's choice (log entry 46). -/
def Tank.coded (t : Tank) : List Byte := le 4 t.reserve ++ le 4 t.lowStock ++ le 4 t.stock ++ yn t.lowFlag

/-- A current sale (R135). -/
def Sale.coded (x : Sale) : List Byte :=
  le 2 x.account.val ++ credentialField x.credential ++ le 4 x.price ++ le 4 x.preset ++ le 4 x.hold ++
  le 4 x.highest ++ flagGroup [x.staff, x.overrun, x.stopped, x.estimated, x.clamped] ++ le 4 x.authTime

/-- A watch (R135). -/
def Watch.coded (w : Watch) : List Byte := le 4 w.volume ++ present 2 w.sale

/-- A dispenser record; sale and watch stand behind a presence byte each (log entry 19), and enable seen, set or clear, is a byte
of its own, 1 for set: the model's choices (log entry 46). -/
def Dispenser.coded (d : Dispenser) : List Byte :=
  opt 2 (d.station.map (·.val)) ++ le 2 d.grade.val ++ le 4 d.maxPreset ++ le 4 d.tolerance ++ le 2 d.nozzleTimeout ++
  le 1 d.state.ctorIdx ++ presence 30 (d.sale.map Sale.coded) ++ yn d.enableSeen ++ timerByte d.nozzleTimer ++ timerByte d.settleTimer ++
  presence 7 (d.watch.map Watch.coded)

def Credential.coded (c : Credential) : List Byte :=
  le 4 c.number.toNat ++ le 1 c.kind.ctorIdx ++ opt 2 (c.stay.map (·.val)) ++ opt 2 (c.account.map (·.val)) ++
  le 2 c.pontoons.toNat ++ le 4 c.validFrom ++ le 4 c.validTo ++ le 1 c.state.ctorIdx ++
  opt 2 (c.zone.map (·.val)) ++ present 4 c.exitExpiry

/-- One of the four places of a gate's pending passages; one not in use is coded as absent, presence byte 0 and all ones (log
entry 19). -/
def passageField : Option Passage → List Byte
  | some x => credentialField x.credential ++ le 1 x.direction.ctorIdx ++ le 4 x.grantTime
  | none => 0 :: absent 11

/-- A gate record (R158). Its pending passages are coded as their number in one byte and four places, and the forced flag is a byte
of its own, 1 for set: the model's choices (log entries 19 and 46). -/
def Gate.coded (g : Gate) : List Byte :=
  opt 2 (g.reader.map (·.val)) ++ le 2 g.unlockTime ++ le 2 g.heldLimit ++ le 1 g.lock.ctorIdx ++
  le 1 g.passages.length ++ passageField g.passages[0]? ++ passageField g.passages[1]? ++
  passageField g.passages[2]? ++ passageField g.passages[3]? ++
  le 1 g.door.ctorIdx ++ timerByte g.heldTimer ++ yn g.forced ++ le 1 g.display

/-- A signal record (R188). Master enable, on or off, is a yes/no field, 1 for on: the model's choice (log entry 46). -/
def signalRecord (s : State) (i : Fin 2) : List Byte :=
  let x := s.signal i
  le 1 x.mask.toNat ++ yn x.enable ++ le 1 x.polarity.ctorIdx ++ le 2 x.stretch ++ yn x.asserted ++ timerByte x.timer ++
  le 1 s.sources.toNat

/-! ### The record tables (R178) -/

/-- The tables by their codes, numbered in the order of R178's list. -/
def TableName.ofCode : Nat → Option TableName
  | 0 => some .marina
  | 1 => some .pontoon
  | 2 => some .berth
  | 3 => some .stay
  | 4 => some .allocation
  | 5 => some .account
  | 6 => some .hold
  | 7 => some .tariff
  | 8 => some .branch
  | 9 => some .station
  | 10 => some .filter
  | 11 => some .outlet
  | 12 => some .start
  | 13 => some .program
  | 14 => some .tap
  | 15 => some .tank
  | 16 => some .dispenser
  | 17 => some .credential
  | 18 => some .gate
  | 19 => some .passageLog
  | 20 => some .signal
  | _ => none

/-- The number of records of a table (R178). -/
def TableName.size : TableName → Nat
  | .marina => 1
  | .pontoon => 12
  | .berth => 240
  | .stay => 256
  | .allocation => 1
  | .account => 512
  | .hold => 16
  | .tariff => 1
  | .branch => 6
  | .station => 128
  | .filter => 4
  | .outlet => 192
  | .start => 12
  | .program => 2
  | .tap => 128
  | .tank => 2
  | .dispenser => 4
  | .credential => 1024
  | .gate => 12
  | .passageLog => 128
  | .signal => 2

/-- The length of what a WRITE RECORD carries; none for a table whose writes are refused (R178, R180, R193). -/
def TableName.writeLength : TableName → Option Nat
  | .marina => some 17
  | .pontoon => some 22
  | .berth => some 14
  | .stay => some 27
  | .allocation => none
  | .account => some 14
  | .hold => none
  | .tariff => some 32
  | .branch => some 5
  | .station => some 9
  | .filter => some 4
  | .outlet => some 5
  | .start => some 4
  | .program => some 24
  | .tap => some 5
  | .tank => some 8
  | .dispenser => some 14
  | .credential => some 20
  | .gate => some 6
  | .passageLog => none
  | .signal => some 5

/-- A record as it stands, none for an empty slot (R178, R179). An EMPTY stay is a record whose state is EMPTY and is sent in
full: the model's choice (log entry 45). -/
def readRecord (s : State) (t : TableName) (i : Nat) : Option (List Byte) :=
  match t with
  | .marina => some s.settings.coded
  | .pontoon => (idOf 12 i).map (pontoonRecord s)
  | .berth => (idOf 240 i).map (fun b => (s.berth b).coded)
  | .stay => (idOf 256 i).map (fun y => stayRecord s (s.stay y))
  | .allocation => some s.engine.coded
  | .account => (idOf 512 i).map (fun a => (s.account a).coded)
  | .hold => (idOf 16 i).bind (fun h => (s.holdSlot h).map HoldRecord.coded)
  | .tariff => some s.ledger.tariff.coded
  | .branch => (idOf 6 i).map (branchRecord s)
  | .station => (idOf 128 i).map (fun st => (s.station st).coded)
  | .filter => (idOf 4 i).map (fun k => (s.link.filter[k]).coded)
  | .outlet => (idOf 192 i).map (outletRecord s)
  | .start => (idOf 12 i).map (startRecord s)
  | .program => (idOf 2 i).map (fun k => programRecord s.power.programs[k])
  | .tap => (idOf 128 i).map (fun t => (s.tap t).coded)
  | .tank => (idOf 2 i).map (fun g => (s.tank g).coded)
  | .dispenser => (idOf 4 i).map (fun d => (s.dispenser d).coded)
  | .credential => (idOf 1024 i).bind (fun c => (s.credential c).map Credential.coded)
  | .gate => (idOf 12 i).map (fun g => (s.gate g).coded)
  | .passageLog => (idOf 128 i).bind (fun (k : Fin 128) => (s.access.log[k]).map PassageRecord.coded)
  | .signal => (idOf 2 i).map (signalRecord s)

/-- A record behind its presence byte (R193). -/
def slotBytes : Option (List Byte) → List Byte
  | some r => 1 :: r
  | none => [0]

/-- Records from index `i` on, at most `n` of them, as many as fit whole in `room` bytes: their number and bytes (R179). -/
def gatherRecords (s : State) (t : TableName) : Nat → Nat → Nat → Nat × List Byte
  | 0, _, _ => (0, [])
  | n + 1, i, room =>
    if i < t.size then
      let r := slotBytes (readRecord s t i)
      if r.length ≤ room then
        let rest := gatherRecords s t n (i + 1) (room - r.length)
        (rest.1 + 1, r ++ rest.2)
      else (0, [])
    else (0, [])

/-! ### Record writes read from their bytes (R180, R193) -/

def rdMarina (b : List Byte) : MarinaWrite :=
  { node := rd b 0 1, lead := rd b 1 2, keel := rd b 3 2, exitGrace := rd b 5 2, deglitch := rd b 7 1,
    tripCount := rd b 8 1, graceTime := rd b 9 2, leakThreshold := rd b 11 4, staffAccount := rdOpt b 15 2 }

def rdPontoon (b : List Byte) : PontoonWrite :=
  { gatePresent := rd b 0 1, capacity := rd b 1 2, reserve := rd b 3 2, commitLimit := rd b 5 2, peopleCapacity := rd b 7 1,
    passbackStrict := rd b 8 1, curfewStart := rd b 9 4, curfewEnd := rd b 13 4, curfewMode := rd b 17 1,
    vf := rd b 18 2, vr := rd b 20 2 }

/-- A berth record's settings part (R3). Its outlet list is two optional ids. A list with the first id absent and the second
present, for which the spec has no layout, is taken as a list of that one outlet, and reads back in the first place: the model's
choices (log entry 19). -/
def rdBerth (b : List Byte) : BerthWrite :=
  { pontoon := rd b 0 2, maxLoa := rd b 2 2, maxBeam := rd b 4 2, depth := rd b 6 2,
    outlets := (rdOpt b 8 2).toList ++ (rdOpt b 10 2).toList, tap := rdOpt b 12 2 }

/-- A stay record's settings part (R6, R193). AUTO_ARRIVE is a yes/no field: the model's choice (log entry 36). -/
def rdStay (b : List Byte) : StayWrite :=
  { loa := rd b 0 2, beam := rd b 2 2, draft := rd b 4 2, powerClass := rd b 6 1, priority := rd b 7 1,
    allowance := rd b 8 4, account := rd b 12 2, arrival := rd b 14 4, departure := rd b 18 4, holdGrace := rd b 22 2,
    prefs := BitVec.ofNat 12 (rd b 24 2), autoArrive := rd b 26 1 }

/-- A byte as a signed number. -/
def rdSigned (b : List Byte) (i : Nat) : Int := (b.getD i 0).toInt

def rdAccount (b : List Byte) : AccountWrite :=
  { kind := rd b 0 1, creditLimit := rd b 1 4, adjustment := rdSigned b 5, lowThreshold := rd b 6 4,
    restoreMargin := rd b 10 4 }

def rdTariff (b : List Byte) : TariffWrite :=
  { powerDay := rd b 0 4, powerNight := rd b 4 4, water := rd b 8 4, fuel0 := rd b 12 4, fuel1 := rd b 16 4,
    berth := rd b 20 4, dayStart := rd b 24 4, dayEnd := rd b 28 4 }

def rdBranch (b : List Byte) : BranchWrite :=
  { rateCode := rd b 0 1, missLimit := rd b 1 1, answerTimeout := rd b 2 2, ratio := rd b 4 1 }

/-- A station record's settings part (R67); the address is one byte: the model's choice (log entry 19). -/
def rdStation (b : List Byte) : StationWrite :=
  { kind := rd b 0 1, branch := rd b 1 2, address := rd b 3 1, enabled := rd b 4 1, outletCount := rdOpt b 5 1,
    tapCount := rdOpt b 6 1, pontoon := rdOpt b 7 2 }

def rdFilter (b : List Byte) : FilterWrite :=
  { query := rd b 0 1, config := rd b 1 1, actuate := rd b 2 1, service := rd b 3 1 }

/-- An outlet record's settings part (R84); the socket index is one byte: the model's choice (log entry 19). -/
def rdOutlet (b : List Byte) : OutletWrite := { post := rdOpt b 0 2, socket := rd b 2 1, rating := rd b 3 2 }

def rdStart (b : List Byte) : StartWrite := { startTime := rd b 0 2, startFactor := rd b 2 2 }

/-- A program record (R119, R193). The END flag of a step is a yes/no field: the model's choice (log entry 36). -/
def rdProgram (b : List Byte) : Vector StepWrite 8 :=
  let st (i : Nat) : StepWrite :=
    { delay := rd b (3 * i) 1, mask := BitVec.ofNat 4 (rd b (3 * i + 1) 1), endFlag := rd b (3 * i + 2) 1 }
  #v[st 0, st 1, st 2, st 3, st 4, st 5, st 6, st 7]

/-- A tap record's settings part (R124); the tap index is one byte: the model's choice (log entry 19). -/
def rdTap (b : List Byte) : TapWrite := { post := rdOpt b 0 2, tapIndex := rd b 2 1, maxRun := rd b 3 2 }

def rdTank (b : List Byte) : TankWrite := { reserve := rd b 0 4, lowStock := rd b 4 4 }

def rdDispenser (b : List Byte) : DispenserWrite :=
  { station := rdOpt b 0 2, grade := rd b 2 2, maxPreset := rd b 4 4, tolerance := rd b 8 4, nozzleTimeout := rd b 12 2 }

def rdCredential (b : List Byte) : CredentialWrite :=
  { number := BitVec.ofNat 32 (rd b 0 4), kind := rd b 4 1, stay := rdOpt b 5 2, account := rdOpt b 7 2,
    pontoons := BitVec.ofNat 12 (rd b 9 2), validFrom := rd b 11 4, validTo := rd b 15 4, state := rd b 19 1 }

def rdGate (b : List Byte) : GateWrite := { reader := rdOpt b 0 2, unlockTime := rd b 2 2, heldLimit := rd b 4 2 }

/-- A signal record's settings part (R188). Master enable is a yes/no field: the model's choice (log entry 46). -/
def rdSignal (b : List Byte) : SignalWrite :=
  { mask := BitVec.ofNat 8 (rd b 0 1), enable := rd b 1 1, polarity := rd b 2 1, stretch := rd b 3 2 }

end Sys2Proof.Machine
end

