-- ==== Sys2Proof/Machine/Requests.lean ====
section
/-! DEFINITION. How the Trunk Port takes a request (R172, R173, R175, R195): the one path that every request row shares, from
the telegram's bytes to the owed and kept answer. -/

namespace Sys2Proof.Machine

/-- What the owner of a request does: the state it leaves and the body of the answer (R173). -/
abbrev Owner := State → State × AnswerBody

/-- An accepted request without a payload in its answer. -/
def done (s : State) : State × AnswerBody := (s, .done [])

/-- A refusal without a detail value; nothing is changed (R174). -/
def refuse (r : Reason) (s : State) : State × AnswerBody := (s, .refused r 0)

/-- The part owes an answer: it joins those owed before it (R173). -/
def owe (a : Answer) (s : State) : State := { s with trunk := { s.trunk with owed := s.trunk.owed ++ [a] } }

/-- An answer to a request with the part's node address as it stands when the answer is formed, also for a BUSY answer that is sent
behind one with which a new address takes effect: the model's choice (R172, R177; log entry 50). -/
def State.answer (s : State) (h : ReqHeader) (body : AnswerBody) : Answer :=
  { node := s.trunk.node, tag := h.tag, body := body }

/-- Whether a request is a repeat of the kept one: tag, code, length and check agree (R173). -/
def KeptRequest.sameAs (k : KeptRequest) (h : ReqHeader) (code : Nat) : Bool :=
  decide (k.tag = h.tag) && decide (k.code = code) && decide (k.length = h.length) && decide (k.check = h.check)

/-- The answer a repeat gets, if the request is one (R173). -/
def State.repeatAnswer (s : State) (h : ReqHeader) (code : Nat) : Option Answer :=
  match s.trunk.kept with
  | some k => if k.sameAs h code then some k.answer else none
  | none => none

/-- A request is handed to its owner when its payload has the length of its layout, else refused BAD_VALUE; the answer is
owed and kept (R173, R175). -/
def takeFresh (h : ReqHeader) (code : Nat) (p : List Byte) (owner : Owner) (s : State) : State :=
  let r := if lengthFits code p then owner s else refuse .badValue s
  let a := s.answer h r.2
  owe a { r.1 with trunk := { r.1.trunk with
    kept := some { tag := h.tag, code := code, length := h.length, check := h.check, answer := a } } }

/-- A good request: its check, its node and its length are right (R172, R196). -/
def State.goodRequest (s : State) (h : ReqHeader) (code : Nat) (p : List Byte) : Bool :=
  decide (h.node = s.trunk.node) && soundRequest h code p

/-- A received request: one that is not good is discarded, one that comes while an answer is owed gets BUSY, a repeat gets the
kept answer, and any other is taken (R172, R173). -/
def takeRequest (h : ReqHeader) (code : Nat) (p : List Byte) (owner : Owner) (s : State) : State :=
  if s.goodRequest h code p = false then s
  else if s.trunk.owed ≠ [] then owe (s.answer h .busy) s
  else
    match s.repeatAnswer h code with
    | some a => owe a s
    | none => takeFresh h code p owner s

/-- A whole request event: header, code and payload as received, and the owner's work on them. -/
def request (h : ReqHeader) (code : Nat) (p : List Byte) (owner : Owner) (s : State) : Host.Outcome State Fault Refusal :=
  event (takeRequest h code p owner) s

/-- The owner's work on a WRITE RECORD whose record has `n` bytes: `write` takes the index and the record's bytes. A record of
another length is refused BAD_VALUE (R180). The payload `p` is that behind the table's byte. -/
def recordWrite (n : Nat) (write : Nat → List Byte → Owner) (p : List Byte) : Owner :=
  if p.length = n + 2 then write (rd p 0 2) (p.drop 2) else refuse .badValue

end Sys2Proof.Machine
end

