-- ==== Sys2Proof/Machine/Accounts.lean ====
section
/-! DEFINITION. The commands and events of the Account and Tariff Unit (chapter 3): accounts, credit and debit, office holds,
tariffs and the nightly pass. -/

namespace Sys2Proof.Machine

/-! ### Account records (R39, R40) -/

/-- A settings part replaces that of an account. -/
def Account.withSettings (a : Account) (v : AccountSettings) : Account :=
  { a with kind := v.kind, creditLimit := v.creditLimit, adjustment := v.adjustment, lowThreshold := v.lowThreshold,
           restoreMargin := v.restoreMargin }

/-- OPEN ACCOUNT (R39). -/
def openAccountOwner (account : Nat) (w : AccountWrite) : Owner := fun s =>
  match idOf 512 account, checkAccount w with
  | some a, some v =>
    let x := s.account a
    if x.state ≠ .closed then refuse .state s
    else if x.balance ≠ 0 then refuse .state s
    else
      let x := { x.withSettings v with state := .open, residuePower := 0, residueWater := 0, residueFuel := 0,
                                       residueBerth := 0, saturated := false }
      done (settleAccount a false (s.setAccount a x))
  | _, _ => refuse .badValue s

def execOpenAccount (h : ReqHeader) (p : List Byte) (s : State) : Host.Outcome State Fault Refusal :=
  request h 0x20 p (openAccountOwner (rd p 0 2) (rdAccount (p.drop 2))) s

/-- WRITE RECORD to the account table (R40). -/
def writeAccount (index : Nat) (w : AccountWrite) : Owner := fun s =>
  match idOf 512 index with
  | none => refuse .badValue s
  | some a =>
    let x := s.account a
    if x.state = .closed then refuse .state s
    else
      match checkAccount w with
      | none => refuse .badValue s
      | some v => done (settleAccount a x.inCreditStop (s.setAccount a (x.withSettings v)))

def execWriteAccountRecord (h : ReqHeader) (p : List Byte) (s : State) : Host.Outcome State Fault Refusal :=
  request h 0x05 (5 :: p) (recordWrite 14 (fun i r => writeAccount i (rdAccount r)) p) s

/-! ### Account states (R44, R45) -/

/-- SUSPEND ACCOUNT (R44). -/
def suspendAccountOwner (account : Nat) : Owner := fun s =>
  match idOf 512 account with
  | none => refuse .badValue s
  | some a =>
    let x := s.account a
    if x.state = .open then done (announce a x.inCreditStop (s.setAccount a { x with state := .suspended }))
    else refuse .state s

def execSuspendAccount (h : ReqHeader) (p : List Byte) (s : State) : Host.Outcome State Fault Refusal :=
  request h 0x21 p (suspendAccountOwner (rd p 0 2)) s

/-- RESUME ACCOUNT (R44). -/
def resumeAccountOwner (account : Nat) : Owner := fun s =>
  match idOf 512 account with
  | none => refuse .badValue s
  | some a =>
    let x := s.account a
    if x.state = .suspended then done (announce a x.inCreditStop (s.setAccount a { x with state := .open }))
    else refuse .state s

def execResumeAccount (h : ReqHeader) (p : List Byte) (s : State) : Host.Outcome State Fault Refusal :=
  request h 0x22 p (resumeAccountOwner (rd p 0 2)) s

/-- What names an account and keeps it open (R45). -/
def State.accountNamed (s : State) (a : AccountId) : Bool :=
  s.register.stays.toList.any (fun y => decide (y.state ≠ .empty) && decide (y.settings.account = a)) ||
  s.ledger.holds.toList.any (fun h => h.any (fun x => decide (x.account = a))) ||
  s.access.credentials.toList.any (fun c => c.any (fun x => decide (x.account = some a))) ||
  s.power.outlets.toList.any (fun o => o.state.energised && decide (o.billing = some a)) ||
  s.water.taps.toList.any (fun t => decide (t.state = .open) && decide (t.billing = some a))

/-- CLOSE ACCOUNT (R45): no restoration is announced. -/
def closeAccountOwner (account : Nat) : Owner := fun s =>
  match idOf 512 account with
  | none => refuse .badValue s
  | some a =>
    if (s.account a).state = .closed then refuse .state s
    else if s.accountNamed a then refuse .inUse s
    else done (s.setAccount a { s.account a with state := .closed })

def execCloseAccount (h : ReqHeader) (p : List Byte) (s : State) : Host.Outcome State Fault Refusal :=
  request h 0x23 p (closeAccountOwner (rd p 0 2)) s

/-! ### Credit, debit, SATURATED (R46, R47) -/

/-- CREDIT (R46). -/
def creditOwner (account amount : Nat) : Owner := fun s =>
  match idOf 512 account, amountOf amount with
  | some a, some n =>
    let stopped := s.inCreditStop a
    let r := raiseBalance a n s
    (settleAccount a stopped r.2, .done (leInt 4 (r.2.account a).balance ++ le 4 r.1))
  | _, _ => refuse .badValue s

def execCredit (h : ReqHeader) (p : List Byte) (s : State) : Host.Outcome State Fault Refusal :=
  request h 0x24 p (creditOwner (rd p 0 2) (rd p 2 4)) s

/-- DEBIT (R46). -/
def debitOwner (account amount : Nat) : Owner := fun s =>
  match idOf 512 account, amountOf amount with
  | some a, some n =>
    let stopped := s.inCreditStop a
    let r := lowerBalance a n s
    (settleAccount a stopped r.2, .done (leInt 4 (r.2.account a).balance ++ le 4 r.1))
  | _, _ => refuse .badValue s

def execDebit (h : ReqHeader) (p : List Byte) (s : State) : Host.Outcome State Fault Refusal :=
  request h 0x25 p (debitOwner (rd p 0 2) (rd p 2 4)) s

/-- CLEAR SATURATED (R47). -/
def clearSaturatedOwner (account : Nat) : Owner := fun s =>
  match idOf 512 account with
  | none => refuse .badValue s
  | some a => done (s.setAccount a { s.account a with saturated := false })

def execClearSaturated (h : ReqHeader) (p : List Byte) (s : State) : Host.Outcome State Fault Refusal :=
  request h 0x26 p (clearSaturatedOwner (rd p 0 2)) s

/-! ### Office holds (R49 to R51) -/

/-- The lowest-numbered empty slot of 4 to 15 (R49). -/
def State.emptyOfficeSlot (s : State) : Option HoldSlot :=
  ((entries s.ledger.holds).find? (fun e => decide (4 ≤ e.1.val) && e.2.isNone)).map (·.1)

/-- Check 3 of R49: none when the expiry is admitted. -/
def expiryRefusal (expiry : Option Nat) (s : State) : Option Reason :=
  match expiry with
  | none => none
  | some e =>
    if ¬ s.clock.isSet then some .clockUnset else if e ≤ s.clock.value then some .badValue else none

/-- Checks 4 and 5 of R49 and the placing. -/
def placeOfficeHold (a : AccountId) (n : Nat) (expiry : Option Nat) : Owner := fun s =>
  let x := s.account a
  if x.state = .suspended ∨ (n : Int) > x.available ∨ x.heldTotal + n > Config.balanceBound then refuse .noCredit s
  else
    match s.emptyOfficeSlot with
    | none => refuse .full s
    | some k =>
      (placeHold k { account := a, amount := n, owner := .office, placed := s.stamp, expiry := expiry,
                     expiryMet := false } s, .done (le 2 k.val))

/-- HOLD (R49); an expiry given while the clock is unset is a use of the clock (R187). -/
def holdOwner (account amount : Nat) (expiry : Option Nat) : Owner := fun s =>
  match idOf 512 account, amountOf amount with
  | some a, some n =>
    if (s.account a).state = .closed then refuse .state s
    else
      match expiryRefusal expiry s with
      | some .clockUnset => refuse .clockUnset (noteClockUse s)
      | some r => refuse r s
      | none => placeOfficeHold a n expiry s
  | _, _ => refuse .badValue s

/-- A HOLD request's bytes: account, amount, and the expiry behind its presence byte (R193, R195). -/
def holdRequest (p : List Byte) : Owner :=
  match rdPresent p 6 4 with
  | some expiry => holdOwner (rd p 0 2) (rd p 2 4) expiry
  | none => refuse .badValue

def execHold (h : ReqHeader) (p : List Byte) (s : State) : Host.Outcome State Fault Refusal :=
  request h 0x27 p (holdRequest p) s

/-- RELEASE HOLD (R50). -/
def releaseHoldOwner (slot : Nat) : Owner := fun s =>
  match idOf 16 slot with
  | none => refuse .badValue s
  | some k => if k.val < 4 ∨ (s.holdSlot k).isNone then refuse .state s else done (releaseHoldSlot k s)

def execReleaseHold (h : ReqHeader) (p : List Byte) (s : State) : Host.Outcome State Fault Refusal :=
  request h 0x28 p (releaseHoldOwner (rd p 0 2)) s

/-- The expiry of an office hold that a clock event has met (R51, R185; log entry 8). -/
def execHoldExpiry (k : HoldSlot) (s : State) : Host.Outcome State Fault Refusal :=
  event (fun s =>
    match s.holdSlot k with
    | some x =>
      if x.expiryMet then raise (.holdExpired k x.account x.amount) (releaseHoldSlot k s) else s
    | none => s) s

/-! ### Tariffs (R53) -/

/-- WRITE RECORD to the tariff table (R53). -/
def writeTariff (index : Nat) (w : TariffWrite) : Owner := fun s =>
  match idOf 1 index, checkTariff w with
  | some _, some v => done { s with ledger := { s.ledger with tariff := v } }
  | _, _ => refuse .badValue s

def execWriteTariffRecord (h : ReqHeader) (p : List Byte) (s : State) : Host.Outcome State Fault Refusal :=
  request h 0x05 (7 :: p) (recordWrite 32 (fun i r => writeTariff i (rdTariff r)) p) s

/-! ### The nightly pass (R60, R61) -/

/-- Whether R60 calls for a pass now, office hold expiries met at the same clock event being taken first. The day is that of the
clock as it stands: a pass that a clock event called for and that has not begun is dropped when SET CLOCK takes the clock back to
the rollover day or before it (R61, R186), where R185 has a deadline already met stay met: the model's choice (log entry 8). -/
def State.passDue (s : State) : Option (Int × Int) :=
  match s.currentDay, s.ledger.rolloverDay, s.ledger.pass with
  | some d, some r, none =>
    if r < d ∧ s.ledger.holds.toList.all (fun h => h.all (fun x => !x.expiryMet)) then some (r, d) else none
  | _, _, _ => none

/-- The nightly pass begins (R60). -/
def execNightlyPassStart (s : State) : Host.Outcome State Fault Refusal :=
  event (fun s =>
    match s.passDue with
    | some (r, d) =>
      let s := if d > r + 1 then raise (.clockJump (Config.clockJumpSubject r d) r d) s else s
      { s with ledger := { s.ledger with pass := some { day := d, position := 0, walked := false, charged := 0,
                                                        total := 0 } } }
    | none => s) s

/-- The metres of a berth night: ceil(LOA / 10) (R55). -/
def metresOf (loa : Nat) : Nat := (loa + 9) / 10

/-- The pass at one stay: the cents charged, if the stay is charged, and the state (R60). -/
def passAt (day : Int) (y : StayId) (s : State) : Option Nat × State :=
  let x := s.stay y
  if x.state = .arrived ∧ x.lastNight ≠ some day then
    let r := charge x.settings.account .berth (metresOf x.settings.loa) s.ledger.tariff.berth s
    let x := r.2.stay y
    (some r.1, r.2.setStay y { x with allowanceLeft := x.settings.allowance, lastNight := some day })
  else (none, s)

/-- The pass after a step: the count and total, and the next position. -/
def NightPass.advance (p : NightPass) (c : Option Nat) : NightPass :=
  let p := match c with
    | some n => { p with charged := p.charged + 1, total := p.total + n }
    | none => p
  if h : p.position.val + 1 < 256 then { p with position := ⟨p.position.val + 1, h⟩ } else { p with walked := true }

/-- One step of the nightly pass (R60). -/
def execNightlyPassStep (s : State) : Host.Outcome State Fault Refusal :=
  event (fun s =>
    match s.ledger.pass with
    | some p =>
      if p.walked then s
      else
        let r := passAt p.day p.position s
        { r.2 with ledger := { r.2.ledger with pass := some (p.advance r.1) } }
    | none => s) s

/-- After the step for stay 255 the pass ends (R61). -/
def execRolloverDone (s : State) : Host.Outcome State Fault Refusal :=
  event (fun s =>
    match s.ledger.pass with
    | some p =>
      if p.walked then
        raise (.rolloverDone p.day p.charged p.total)
          { s with ledger := { s.ledger with rolloverDay := some p.day, pass := none } }
      else s
    | none => s) s

end Sys2Proof.Machine
end

