-- ==== Sys2Proof/Machine/Allocation.lean ====
section
/-! DEFINITION. The commands and events of the Fit Engine (chapter 2): ALLOCATE, the automatic submissions, the scan's steps and
its completion. -/

namespace Sys2Proof.Machine

/-- ALLOCATE (R26). -/
def allocateOwner (stay : Nat) : Owner := fun s =>
  match idOf 256 stay with
  | none => refuse .badValue s
  | some y =>
    if ¬ s.arrivals.contains y then refuse .notWaiting s
    else if s.fitQueued y then (s, .queued)
    else if s.engine.queue.length ≥ Config.allocationPlaces then (s, .busy)
    else (enqueueFit { stay := y, source := .office } s, .queued)

def execAllocate (h : ReqHeader) (p : List Byte) (s : State) : Host.Outcome State Fault Refusal :=
  request h 0x1A p (allocateOwner (rd p 0 2)) s

/-- Due stays that already have an entry get their mark, as though they had been submitted (R28). -/
def markDueQueued (s : State) : State :=
  forEach (fun y => setLeadMark y true) ((s.arrivals.filter s.leadDue).filter s.fitQueued) s

/-- The first due stay without an entry joins the queue, with its mark set (R28). -/
def submitLead (s : State) : State :=
  match (s.arrivals.filter s.leadDue).filter (fun y => !s.fitQueued y) with
  | y :: _ => enqueueFit { stay := y, source := .lead } (setLeadMark y true s)
  | [] => s

/-- The allocation lead: the marks of due stays with an entry are set, whatever the queue and the resubmit count; a free place is
filled once no resubmission is left (R27, R28). -/
def execLeadSubmission (s : State) : Host.Outcome State Fault Refusal :=
  event (fun s =>
    let s := markDueQueued (tryFilling s)
    if s.engine.queue.length < Config.allocationPlaces ∧ s.engine.resubmit = 0 then submitLead s else s) s

/-- Whether the allocation lead has something to do: a mark to set, or a stay to submit to a free place (R27, R28). -/
def State.leadWork (s : State) : Bool :=
  s.arrivals.any (fun y => s.leadDue y &&
    (s.fitQueued y || (decide (s.engine.queue.length < Config.allocationPlaces) && decide (s.engine.resubmit = 0))))

/-- The engine fills a free place from the resubmit count (R29). -/
def execResubmission (s : State) : Host.Outcome State Fault Refusal :=
  event (fun s =>
    if s.engine.queue.length < Config.allocationPlaces ∧ s.engine.resubmit > 0 then
      match s.arrivals.find? (fun y => (s.stay y).unplaced && !s.fitQueued y) with
      | some y =>
        enqueueFit { stay := y, source := .resubmit } (s.setEngine { s.engine with resubmit := s.engine.resubmit - 1 })
      | none => tryFilling (s.setEngine { s.engine with resubmit := 0 })
    else s) s

/-- The score of a candidate (R31). -/
def fitScore (v : FitValues) (b : Berth) : Nat := (b.maxLoa - v.loa) + 2 * (b.maxBeam - v.beam)

/-- The best berth after a candidate: replaced when none is held or the candidate's score is lower (R31). -/
def betterOf (best : Option (BerthId × Nat)) (b : BerthId) (score : Nat) : Option (BerthId × Nat) :=
  match best with
  | some (c, n) => if score < n then some (b, score) else some (c, n)
  | none => some (b, score)

/-- The step of a scan at its position (R30, R31). -/
def scanOne (s : State) (x : Scan) : Scan :=
  let b := x.position
  let fails := firstFailing (eligibility s x.captured b 0)
  let x := if (s.berth b).state = .free then { x with freeSeen := x.freeSeen + 1 } else x
  let x := if fails = none then { x with best := betterOf x.best b (fitScore x.captured (s.berth b)) } else x
  if h : b.val + 1 < 240 then { x with position := ⟨b.val + 1, h⟩ } else { x with walked := true }

/-- One step of the walk (R30). -/
def execScanStep (s : State) : Host.Outcome State Fault Refusal :=
  event (fun s =>
    match s.engine.scan with
    | some x => if x.walked then s else s.setEngine { s.engine with scan := some (scanOne s x) }
    | none => s) s

/-- The completion of an attempt for subject `e` (R32, R33, R34). -/
def completeAttempt (e : FitEntry) (x : Scan) (s : State) : State :=
  match x.best with
  | none =>
    let s := s.setStay e.stay { s.stay e.stay with unplaced := true }
    endScan (raise (.noFit e.stay e.source x.attempt x.freeSeen) s)
  | some (b, score) =>
    match firstFailing (eligibility s (s.stay e.stay).settings.fit b 0) with
    | none => endScan (raise (.stayPlaced e.stay b score e.source) (holdBerth e.stay b s))
    | some n =>
      if x.attempt = 1 then beginAttempt 2 e.stay s
      else endScan (raise (.contended e.stay .recheck (some b) n) s)

/-- After the step for berth 239 the attempt completes (R32). -/
def execAttemptComplete (s : State) : Host.Outcome State Fault Refusal :=
  event (fun s =>
    match s.engine.scan, s.engine.queue with
    | some x, e :: _ => if x.walked then completeAttempt e x s else s
    | _, _ => s) s

end Sys2Proof.Machine
end

