-- ==== Sys2Proof/Machine/Feeders.lean ====
section
/-! DEFINITION. Feeders and load programs (chapter 6): the admitted set and what it does to outlets, the program walk, the
monitor's report with its faults and recoveries, and the breaker. -/

namespace Sys2Proof.Machine

/-! ### The admitted set and the outlets (R121, R122) -/

/-- The priority class of an outlet is that of the stay occupying its berth (R121). -/
def State.outletClass (s : State) (o : OutletId) : Option PriorityClass :=
  (s.outletStay o).map (fun t => (s.stay t).settings.priority)

/-- The outlets of a pontoon, ascending. -/
def State.outletsOf (s : State) (p : PontoonId) : List OutletId :=
  (s.outletsWhere (fun x => x.berth.isSome)).filter (fun o => decide (s.outletPontoon o = some p))

/-- A QUEUED outlet whose class is withdrawn leaves the queue and becomes SHED (R115, R121). -/
def queuedToShed (o : OutletId) (s : State) : State :=
  putOutlet o { s.outlet o with state := .shed, reason := none } (leaveStarts o s)

/-- One outlet at a SHED step (R121). -/
def withdrawOutlet (p : PontoonId) (o : OutletId) (s : State) : State :=
  match s.outletClass o with
  | some c =>
    if (s.feeder p).admits c then s
    else
      match (s.outlet o).state with
      | .starting => enterClosing o .shed none s
      | .on => enterClosing o .shed none s
      | .grace => enterClosing o .shed none s
      | .resync => enterClosing o .shed none s
      | .queued => queuedToShed o s
      | _ => s
  | none => s

/-- Classes leave the admitted set by a SHED step (R121). -/
def withdrawClasses (p : PontoonId) (mask : ClassSet) (s : State) : State :=
  let f := s.feeder p
  let s1 := s.setFeeder p { f with admitted := f.admitted &&& mask }
  reconsider s (forEach (withdrawOutlet p) (s1.outletsOf p) s1)

/-- Classes enter the admitted set: the pontoon's SHED outlets whose class has entered are evaluated again, and its start queue is
then considered, whether its head has changed or not (R122). -/
def admitClasses (p : PontoonId) (mask : ClassSet) (s : State) : State :=
  let f := s.feeder p
  let entered := mask &&& ~~~f.admitted
  let s1 := s.setFeeder p { f with admitted := f.admitted ||| mask }
  let back := (s1.outletsOf p).filter (fun o =>
    decide ((s1.outlet o).state = .shed) &&
    (match s1.outletClass o with | some c => entered.getLsbD c.val | none => false))
  if entered = 0 then s1 else consider p (forEach reevaluate back s1)

/-! ### The program walk (R119, R120) -/

/-- The wait of a delay code in ms (R119). -/
def delayMs (d : Nat) : Nat := if d = 0 then 0 else 2 ^ (d - 1) * Config.secondMs

/-- The steps of the SHED or RESTORE program. -/
def State.program (s : State) (restore : Bool) : Vector ProgramStep 8 :=
  if restore then s.power.programs[1] else s.power.programs[0]

/-- One step is applied (R120 step 2). -/
def applyStep (restore : Bool) (p : PontoonId) (mask : ClassSet) (s : State) : State :=
  if restore then admitClasses p mask s else withdrawClasses p mask s

/-- The walk from step `k`: steps without delay apply at once, and the first step with a delay starts the step timer. The
answer says whether the program has ended. The fuel is the number of steps left (R120). -/
def walkProgram : Nat → Bool → PontoonId → Fin 8 → State → Bool × State
  | 0, _, _, _, s => (true, s)
  | n + 1, restore, p, k, s =>
    let st := (s.program restore)[k]
    if st.delay = 0 then
      let s := applyStep restore p st.mask (s.setFeeder p { s.feeder p with position := some k, stepTimer := none })
      if st.endFlag || decide (k = 7) then (true, s) else walkProgram n restore p (k + 1) s
    else
      (false, s.setFeeder p { s.feeder p with position := some k, stepTimer := some (s.after (delayMs st.delay)) })

/-- Notice FEEDER_STATE with the state and the admitted set as they stand (R111). -/
def noteFeeder (p : PontoonId) (cause : FeederCause) (s : State) : State :=
  raise (.feederState p (s.feeder p).state cause (s.feeder p).admitted) s

/-- The end of a program (R120). -/
def endProgram (restore : Bool) (p : PontoonId) (s : State) : State :=
  let s := if restore then admitClasses p 15 s else s
  noteFeeder p .programEnd
    (s.setFeeder p { s.feeder p with state := if restore then .normal else .shed, position := none, stepTimer := none })

/-- A change of feeder state that starts a program: the steps without delay apply within the event, then FEEDER_STATE is
raised, and a program that has already ended ends behind it (R111, R120; log entry 23). -/
def startProgram (restore : Bool) (p : PontoonId) (cause : FeederCause) (shedCause : Option ShedCause) (s : State) : State :=
  let s := s.setFeeder p { s.feeder p with state := if restore then .restoring else .shedding, shedCause := shedCause,
                                           position := none, stepTimer := none }
  let r := walkProgram 8 restore p 0 s
  let s := noteFeeder p cause r.2
  if r.1 then endProgram restore p s else s

/-- The step timer runs out: the step at the position applies, and the walk goes on (R120). -/
def stepTimerExpires (p : PontoonId) (s : State) : State :=
  let f := s.feeder p
  match f.stepTimer, f.position with
  | some e, some k =>
    let s := s.advanceTo e
    let restore := decide (f.state = .restoring)
    let st := (s.program restore)[k]
    let s := applyStep restore p st.mask (s.setFeeder p { s.feeder p with stepTimer := none })
    let r := if st.endFlag || decide (k = 7) then (true, s) else walkProgram 7 restore p (k + 1) s
    if r.1 then endProgram restore p r.2 else r.2
  | _, _ => s

/-! ### Faults, recoveries and the breaker (R113 to R116) -/

/-- R113: a fault acts by the feeder state. -/
def feederFault (p : PontoonId) (shed : ShedCause) (cause : FeederCause) (s : State) : State :=
  match (s.feeder p).state with
  | .normal => startProgram false p cause (some shed) s
  | .restoring => startProgram false p cause (some shed) s
  | _ => s

/-- R114: a recovery acts by the feeder state and the shed cause. -/
def feederRecovery (p : PontoonId) (s : State) : State :=
  let f := s.feeder p
  if (f.state = .shedding ∨ f.state = .shed) ∧ f.shedCause ≠ some .office then startProgram true p .recovery none s else s

/-- The state a CLOSING outlet takes on a dead feeder (R115 step 4). -/
def deadTarget : Option CloseTarget → OutletState
  | some .vacant => .vacant
  | some .tripped => .tripped
  | some .locked => .locked
  | _ => .shed

/-- One outlet whose grant was taken from the dead feeder (R115 steps 3 and 4). -/
def cutOutlet (o : OutletId) (s : State) : State :=
  let x := s.outlet o
  let st := if x.state = .closing then deadTarget x.target else .shed
  let s := putOutlet o { x with state := st, reason := none, target := none, granted := 0, grantPontoon := none,
                                limited := false, startTimer := none, graceTimer := none, finalOwed := true }
    (leaveStarts o s)
  refreshNamed x.post s

/-- R115: the breaker opens. The outlets of steps 3 and 4 are taken in one ascending pass and those of step 5 in a second: the
model's choice (log entry 40). -/
def breakerOpens (p : PontoonId) (s : State) : State :=
  let s := s.setFeeder p { s.feeder p with state := .dead, admitted := 0, shedCause := none, position := none,
                                           stepTimer := none }
  let s := forEach cutOutlet
    (s.outletsWhere (fun x => x.state.energised && decide (x.grantPontoon = some p))) s
  let s := forEach queuedToShed (ascending (s.start p).queue) s
  let s := s.setStart p { s.start p with upgrades := [] }
  noteFeeder p .breakerOpen s

/-- R116: the breaker closes on a DEAD feeder. -/
def breakerCloses (p : PontoonId) (s : State) : State :=
  startProgram true p .breakerClosed none
    (s.setFeeder p { s.feeder p with lowCount := 0, overCount := 0, healthyCount := 0 })

/-- A count that stops at 7 (R112 step 4). -/
def countUp (c : Bool) (n : Nat) : Nat := if c then min 7 (n + 1) else 0

/-- R112: a good report of the pontoon's feeder monitor. A fault for which both counts stand at or above K has cause
UNDERVOLTAGE: R113 says so where both reach K on the same report, and where they reached it on different reports it is the
model's choice (log entry 52). -/
def takeMonitorReport (p : PontoonId) (voltage current : Nat) (breakerIsOpen : Bool) (s : State) : State :=
  let s := s.setFeeder p { s.feeder p with lastVoltage := voltage, lastCurrent := current,
                                           lastBreaker := some (if breakerIsOpen then .open else .closed) }
  let f := s.feeder p
  if breakerIsOpen then
    if f.state = .dead then s else breakerOpens p s
  else if f.state = .dead then breakerCloses p s
  else
    let v := s.pontoon p
    let k := s.settings.tripCount
    let low := countUp (decide (voltage < v.vf)) f.lowCount
    let overNow := countUp (decide (current > v.capacity)) f.overCount
    let healthy := countUp (decide (voltage ≥ v.vr) && decide (current ≤ v.capacity - v.reserve)) f.healthyCount
    let s := s.setFeeder p { f with lowCount := low, overCount := overNow, healthyCount := healthy }
    let s := if low ≥ k then feederFault p .undervoltage .undervoltage s
             else if overNow ≥ k then feederFault p .overload .overload s
             else s
    if healthy ≥ k then feederRecovery p s else s

/-- A change of the monitor's station state, and its enabling or disabling: the three counts become 0 (R112). -/
def monitorStationChanged (p : PontoonId) (s : State) : State :=
  s.setFeeder p { s.feeder p with lowCount := 0, overCount := 0, healthyCount := 0 }

/-- Whether an enabled feeder monitor names the pontoon (R68, R118). -/
def State.monitored (s : State) (p : PontoonId) : Bool :=
  s.link.stations.toList.any (fun x => x.enabled && decide (x.kind = .feederMonitor) && decide (x.pontoon = some p))

end Sys2Proof.Machine
end

