-- ==== Sys2Proof/Machine/Fuel.lean ====
section
/-! DEFINITION. The Fuel Dock Controller (chapter 8): tanks, dispensers, authorisation, delivery, settlement, the emergency stop
and the sale journal. -/

namespace Sys2Proof.Machine

/-! ### Dispensers and their images (R135 to R137, R148) -/

/-- Whether ESTOP is asserted (R189). -/
def State.estopOn (s : State) : Bool := s.lines.estop.asserted

/-- The hold slot of a dispenser (R48). -/
def slotOf (d : DispenserId) : HoldSlot := ⟨d.val, by omega⟩

/-- The image fields of a dispenser by R137's table. -/
def Dispenser.imageOf (x : Dispenser) (estop : Bool) (im : Image) : Image :=
  let overrun := x.sale.any (·.overrun)
  let stopped := x.sale.any (·.stopped)
  { im with
    enable := decide (x.state = .authorised) || decide (x.state = .delivering)
    preset := if x.state.holdsSale then (x.sale.map (·.preset)).getD 0 else 0
    price := if x.state.holdsSale then (x.sale.map (·.price)).getD 0 else 0
    stop := match x.state with
      | .delivering => overrun
      | .settling => overrun || stopped || estop
      | .stopped => true
      | _ => false }

/-- The state of a dispenser's station, if it names one. -/
def State.dispenserStation (s : State) (d : DispenserId) : Option StationState :=
  (s.dispenser d).station.map (fun st => (s.station st).state)

/-- The condition under which the offline settle timer runs (R148). -/
def State.settleWaits (s : State) (d : DispenserId) : Bool :=
  let x := s.dispenser d
  (decide (x.state = .delivering) || decide (x.state = .settling)) && decide (s.dispenserStation d ≠ some .online)

/-- The offline settle timer starts when its condition begins and stops when it ends (R148). A timer that runs is not started
afresh while its condition goes on: the model's choice (log entry 42). -/
def refreshSettle (d : DispenserId) (s : State) : State :=
  let x := s.dispenser d
  match s.settleWaits d, x.settleTimer with
  | true, none => s.setDispenser d { x with settleTimer := some (s.after Config.offlineSettleMs) }
  | false, some _ => s.setDispenser d { x with settleTimer := none }
  | _, _ => s

/-- The controller writes the dispenser's image (R137). -/
def showDispenser (d : DispenserId) (s : State) : State :=
  match (s.dispenser d).station with
  | some st => modifyImage st ((s.dispenser d).imageOf s.estopOn) s
  | none => s

/-- A dispenser record is written, with its timer, its image and its station's place on the attention list (R77, R137). -/
def putDispenser (d : DispenserId) (x : Dispenser) (s : State) : State :=
  refreshNamed x.station (showDispenser d (refreshSettle d (s.setDispenser d x)))

/-- A change of the state of a station that a dispenser record names, whatever its kind (R136, R148; log entry 42). -/
def fuelStationChanged (st : StationId) (s : State) : State :=
  forEach (fun d s => if (s.dispenser d).station = some st then refreshSettle d s else s) (List.finRange 4) s

/-- IDLE, or STOPPED while ESTOP is asserted (R136, R147, R151). -/
def State.restState (s : State) : DispenserState := if s.estopOn then .stopped else .idle

/-! ### Records of tanks and dispensers (R133, R134, R136) -/

/-- WRITE RECORD to the tank table (R133). -/
def writeTank (index : Nat) (w : TankWrite) : Owner := fun s =>
  match idOf 2 index, checkTank w with
  | some g, some v => done (evaluateLowStock g (s.setTank g { s.tank g with reserve := v.1, lowStock := v.2 }))
  | _, _ => refuse .badValue s

def execWriteTankRecord (h : ReqHeader) (p : List Byte) (s : State) : Host.Outcome State Fault Refusal :=
  request h 0x05 (15 :: p) (recordWrite 8 (fun i r => writeTank i (rdTank r)) p) s

/-- STOCK (R134). -/
def stockOwner (grade volume : Nat) : Owner := fun s =>
  match idOf 2 grade, within 1 Config.stockMax volume with
  | some g, some v =>
    let t := s.tank g
    let n := min Config.stockMax (t.stock + v)
    (evaluateLowStock g (s.setTank g { t with stock := n }), .done (le 4 n ++ le 4 (t.stock + v - n)))
  | _, _ => refuse .badValue s

def execStock (h : ReqHeader) (p : List Byte) (s : State) : Host.Outcome State Fault Refusal :=
  request h 0x44 p (stockOwner (rd p 0 2) (rd p 2 4)) s

/-- SET STOCK (R134). -/
def setStockOwner (grade volume : Nat) : Owner := fun s =>
  match idOf 2 grade, upTo Config.stockMax volume with
  | some g, some v => done (evaluateLowStock g (s.setTank g { s.tank g with stock := v }))
  | _, _ => refuse .badValue s

def execSetStock (h : ReqHeader) (p : List Byte) (s : State) : Host.Outcome State Fault Refusal :=
  request h 0x45 p (setStockOwner (rd p 0 2) (rd p 2 4)) s

/-- Another dispenser record names the station (R136). -/
def State.dispenserStationTaken (s : State) (d : DispenserId) (st : Option StationId) : Bool :=
  st.isSome && (entries s.fuel.dispensers).any (fun e => decide (e.1 ≠ d) && decide (e.2.station = st))

/-- An accepted dispenser write: a change of station removes the watch and clears enable seen (R136). The new station takes the
image, and both stations stand on the attention list as their conditions then do (R77; log entry 25). -/
def applyDispenserWrite (d : DispenserId) (v : DispenserSettings) (s : State) : State :=
  let x := s.dispenser d
  let x' := { x with station := v.station, grade := v.grade, maxPreset := v.maxPreset, tolerance := v.tolerance,
                     nozzleTimeout := v.nozzleTimeout }
  if x.station = v.station then s.setDispenser d x'
  else refreshNamed x.station (putDispenser d { x' with watch := none, enableSeen := false } s)

/-- WRITE RECORD to the dispenser table (R136). -/
def writeDispenser (index : Nat) (w : DispenserWrite) : Owner := fun s =>
  match idOf 4 index with
  | none => refuse .badValue s
  | some d =>
    if (s.dispenser d).state.holdsSale then refuse .state s
    else
      match checkDispenser w with
      | none => refuse .badValue s
      | some v => if s.dispenserStationTaken d v.station then refuse .duplicate s else done (applyDispenserWrite d v s)

def execWriteDispenserRecord (h : ReqHeader) (p : List Byte) (s : State) : Host.Outcome State Fault Refusal :=
  request h 0x05 (16 :: p) (recordWrite 14 (fun i r => writeDispenser i (rdDispenser r)) p) s

/-- OPEN DISPENSER (R136). -/
def openDispenserOwner (dispenser : Nat) : Owner := fun s =>
  match idOf 4 dispenser with
  | none => refuse .badValue s
  | some d =>
    if (s.dispenser d).state = .closed then done (putDispenser d { s.dispenser d with state := s.restState } s)
    else refuse .state s

def execOpenDispenser (h : ReqHeader) (p : List Byte) (s : State) : Host.Outcome State Fault Refusal :=
  request h 0x42 p (openDispenserOwner (rd p 0 2)) s

/-- CLOSE DISPENSER (R136). -/
def closeDispenserOwner (dispenser : Nat) : Owner := fun s =>
  match idOf 4 dispenser with
  | none => refuse .badValue s
  | some d =>
    let x := s.dispenser d
    if x.state = .idle ∨ x.state = .stopped then done (putDispenser d { x with state := .closed, watch := none } s)
    else refuse .state s

def execCloseDispenser (h : ReqHeader) (p : List Byte) (s : State) : Host.Outcome State Fault Refusal :=
  request h 0x43 p (closeDispenserOwner (rd p 0 2)) s

/-! ### Authorisation (R139 to R142) -/

/-- The dispensers in AUTHORISED, DELIVERING or SETTLING (R140). -/
def State.salesOpen (s : State) : Nat := s.fuel.dispensers.toList.countP (fun x => x.state.holdsSale)

/-- The fuel price of a grade (R141). -/
def Tariff.fuel (t : Tariff) (g : GradeId) : Nat := if g = 0 then t.fuel0 else t.fuel1

/-- The presets of the other sales of the same grade (R141). -/
def State.otherPresets (s : State) (d : DispenserId) : Nat :=
  (entries s.fuel.dispensers).foldl
    (fun n e => if decide (e.1 ≠ d) && decide (e.2.grade = (s.dispenser d).grade) && e.2.state.holdsSale then
        n + (e.2.sale.map (·.preset)).getD 0
      else n) 0

/-- The stock bound of R141. -/
def State.stockBound (s : State) (d : DispenserId) (staff : Bool) : Nat :=
  let t := s.tank (s.dispenser d).grade
  t.stock - s.otherPresets d - (if staff then 0 else t.reserve)

/-- A' of R141: A within 99,999,999 less the held total, and no less than 0. -/
def Account.fuelCredit (a : Account) : Nat := (min a.available ((Config.balanceBound : Int) - a.heldTotal)).toNat

/-- The preset, price and hold that a sale may take (R141). -/
structure PresetGiven where
  preset : Nat
  price  : Nat
  hold   : Nat
  deriving DecidableEq, Repr

/-- The preset computation; a preset below 100 cl is refused (R141). -/
def presetFor (s : State) (d : DispenserId) (a : AccountId) (staff : Bool) (requested : Nat) : Except Reason PresetGiven :=
  let x := s.account a
  let price := effectivePrice (s.ledger.tariff.fuel (s.dispenser d).grade) x.adjustment
  let byStock := min requested (s.stockBound d staff)
  let preset := if price = 0 then (if x.fuelCredit ≥ 1 then byStock else 0)
                else min byStock (x.fuelCredit * Config.pointsPerCent / price)
  if preset < Config.presetMin then
    .error (if s.stockBound d staff < Config.presetMin then .lowStock else .lowCredit)
  else
    .ok { preset := preset, price := price,
          hold := if price = 0 then 1 else (preset * price + (Config.pointsPerCent - 1)) / Config.pointsPerCent }

/-- The common tests C1 to C3 of R140. -/
def commonTests (s : State) (d : DispenserId) (a : AccountId) (staff : Bool) (requested : Nat) : Except Reason PresetGiven :=
  if s.fuel.journal.length + s.salesOpen ≥ Config.journalPlaces then .error .journalFull
  else if s.inCreditStop a then .error .credit
  else presetFor s d a staff requested

/-- R142: the authorisation is carried out. -/
def authoriseSale (d : DispenserId) (a : AccountId) (credential : Option (CredentialSlot × CardNumber)) (staff : Bool)
    (g : PresetGiven) (s : State) : State :=
  let s := placeHold (slotOf d) { account := a, amount := g.hold, owner := .dispenser d, placed := s.stamp, expiry := none,
                                  expiryMet := false } s
  let x := s.dispenser d
  putDispenser d
    { x with state := .authorised, enableSeen := false, nozzleTimer := some (s.after (x.nozzleTimeout * Config.secondMs)),
             sale := some { account := a, credential := credential, price := g.price, preset := g.preset, hold := g.hold,
                            highest := 0, staff := staff, overrun := false, stopped := false, estimated := false,
                            clamped := false, authTime := s.stamp } } s

/-- The requested volume of an office authorisation: the preset clamped to 100 to the maximum preset (R140). -/
def Dispenser.clampPreset (x : Dispenser) (preset : Nat) : Nat := max Config.presetMin (min preset x.maxPreset)

/-- AUTHORISE (R140). -/
def authoriseOwner (dispenser account preset staff : Nat) : Owner := fun s =>
  match idOf 4 dispenser, idOf 512 account, upTo 99999 preset, yesNo staff with
  | some d, some a, some p, some f =>
    let x := s.dispenser d
    if s.estopOn then refuse .stopped s
    else if x.state ≠ .idle ∨ x.watch.isSome then refuse .state s
    else if s.dispenserStation d ≠ some .online ∧ s.dispenserStation d ≠ some .unknown then refuse .offline s
    else if (s.account a).state = .closed then refuse .state s
    else
      match commonTests s d a f (x.clampPreset p) with
      | .error r => refuse r s
      | .ok g => (authoriseSale d a none f g s, .done (le 4 g.preset ++ le 4 g.hold))
  | _, _, _, _ => refuse .badValue s

def execAuthorise (h : ReqHeader) (p : List Byte) (s : State) : Host.Outcome State Fault Refusal :=
  request h 0x40 p (authoriseOwner (rd p 0 2) (rd p 2 2) (rd p 4 4) (rd p 8 1)) s

/-- The slot that holds a credential number (R155). -/
def State.cardSlot (s : State) (n : CardNumber) : Option CredentialSlot :=
  (s.credentialsWhere (fun c => decide (c.number = n))).head?

/-- The validity window, a bound of 0 left untested (R155). -/
def Credential.inValidity (c : Credential) (t : Nat) : Bool :=
  (decide (c.validFrom = 0) || decide (c.validFrom ≤ t)) && (decide (c.validTo = 0) || decide (t ≤ c.validTo))

/-- The account of a card at the fuel dock (R139). -/
def State.cardAccount (s : State) (c : Credential) : Option AccountId :=
  match c.kind with
  | .guest =>
    match c.stay with
    | some y => if (s.stay y).state = .expected ∨ (s.stay y).state = .arrived then some (s.stay y).settings.account
                else none
    | none => none
  | .crew => c.account
  | .staff => s.settings.staffAccount
  | .contractor => none

/-- A refused card raises SALE_REFUSED (R139). -/
def refuseCard (d : DispenserId) (r : Reason) (n : CardNumber) (s : State) : State := raise (.saleRefused d r n) s

/-- Tests 5 and 6 of R139 and the common tests, for credential `c` in slot `i`. -/
def takeKnownCard (d : DispenserId) (i : CredentialSlot) (c : Credential) (s : State) : State :=
  match s.cardAccount c with
  | none => refuseCard d .noAccount c.number s
  | some a =>
    if (s.account a).state = .closed then refuseCard d .state c.number s
    else
      match commonTests s d a (decide (c.kind = .staff)) (s.dispenser d).maxPreset with
      | .error r => refuseCard d r c.number s
      | .ok g => authoriseSale d a (some (i, c.number)) (decide (c.kind = .staff)) g s

/-- A card at a dispenser (R139). The validity window of an unset clock is a use of the clock (R187). -/
def takeFuelCard (d : DispenserId) (n : CardNumber) (s : State) : State :=
  if s.estopOn then refuseCard d .stopped n s
  else if (s.dispenser d).state ≠ .idle ∨ (s.dispenser d).watch.isSome then refuseCard d .state n s
  else
    match s.cardSlot n with
    | none => refuseCard d .unknown n s
    | some i =>
      match s.credential i with
      | none => refuseCard d .unknown n s
      | some c =>
        if c.state ≠ .active then refuseCard d .expired n s
        else
          let s := noteClockUse s
          if s.clock.isSet && !c.inValidity s.clock.value then refuseCard d .expired n s
          else takeKnownCard d i c s

/-! ### Endings (R143, R146 to R151) -/

/-- A sale in AUTHORISED ends without delivery: the slot is released, the sale discarded, and a seen enable leaves a watch
(R143, R146, R149, R151, R154). -/
def abandonSale (d : DispenserId) (st : DispenserState) (s : State) : State :=
  let s := releaseHoldSlot (slotOf d) s
  let x := s.dispenser d
  putDispenser d { x with state := st, sale := none, nozzleTimer := none,
                          watch := if x.enableSeen then some { volume := 0, sale := none } else x.watch } s

/-- The sale of a dispenser with its STOPPED flag set. -/
def Dispenser.saleStopped (x : Dispenser) : Option Sale := x.sale.map (fun y => { y with stopped := true })

/-- The nozzle timer of a dispenser runs out (R143). -/
def nozzleTimeoutAt (d : DispenserId) (s : State) : State :=
  let x := s.dispenser d
  match x.state, x.sale with
  | .authorised, some y =>
    if s.dispenserStation d = some .online then
      raise (.saleLapsed d y.account y.preset) (abandonSale d .idle s)
    else putDispenser d { x with state := .settling, nozzleTimer := none } s
  | _, _ => s

def execNozzleTimeout (d : DispenserId) (s : State) : Host.Outcome State Fault Refusal :=
  event (fun s =>
    match (s.dispenser d).nozzleTimer with
    | some e => nozzleTimeoutAt d (s.advanceTo e)
    | none => s) s

/-- CANCEL SALE (R146). -/
def cancelSaleOwner (dispenser : Nat) : Owner := fun s =>
  match idOf 4 dispenser with
  | none => refuse .badValue s
  | some d =>
    let x := s.dispenser d
    match x.state with
    | .authorised => done (abandonSale d .idle s)
    | .delivering => done (putDispenser d { x with state := .settling, sale := x.saleStopped } s)
    | _ => refuse .state s

def execCancelSale (h : ReqHeader) (p : List Byte) (s : State) : Host.Outcome State Fault Refusal :=
  request h 0x41 p (cancelSaleOwner (rd p 0 2)) s

/-- The journal record of a settlement (R152). -/
def saleRecord (s : State) (d : DispenserId) (y : Sale) (volume amount : Nat) : SaleRecord :=
  { number := s.fuel.nextSale, dispenser := d, grade := (s.dispenser d).grade, account := y.account,
    credential := y.credential, volume := volume, price := y.price, amount := amount, authTime := y.authTime,
    settleTime := s.stamp, staff := y.staff, overrun := y.overrun, stopped := y.stopped, estimated := y.estimated,
    clamped := y.clamped }

/-- The record is appended with the next sale number (R152). -/
def appendSale (r : SaleRecord) (s : State) : State :=
  { s with fuel := { s.fuel with journal := s.fuel.journal ++ [r], nextSale := (s.fuel.nextSale + 1) % 65536 } }

/-- Steps 1 and 2 of R147 as one operation: the slot is released, the charge made, the flags evaluated once. -/
def settleMoney (d : DispenserId) (y : Sale) (charged : Nat) (s : State) : Nat × State :=
  let stopped := s.inCreditStop y.account
  let r := chargeAmount y.account .fuel charged y.price (emptyHold (slotOf d) s)
  (r.1, settleAccount y.account stopped r.2)

/-- A sale settles on a volume, by its final report or on its estimate (R147, R148). -/
def settleSale (d : DispenserId) (volume : Nat) (estimated : Bool) (s : State) : State :=
  match (s.dispenser d).sale with
  | none => s
  | some y =>
    let charged := min volume Config.fuelVolumeCap
    let y := { y with clamped := decide (volume > Config.fuelVolumeCap), estimated := estimated }
    let r := settleMoney d y charged s
    let s := lowerStock (s.dispenser d).grade volume r.2
    let record := saleRecord s d y volume r.1
    let s := raise (.saleSettled d record.number volume r.1) (appendSale record s)
    let x := s.dispenser d
    putDispenser d { x with state := s.restState, sale := none, nozzleTimer := none,
                            watch := if estimated then some { volume := volume, sale := some record.number } else x.watch } s

/-- The offline settle timer of a dispenser runs out (R148). -/
def execOfflineSettleTimeout (d : DispenserId) (s : State) : Host.Outcome State Fault Refusal :=
  event (fun s =>
    match (s.dispenser d).settleTimer, (s.dispenser d).sale with
    | some e, some y => settleSale d y.highest true (s.advanceTo e)
    | _, _ => s) s

/-! ### Delivery (R144, R145, R150) -/

/-- Step 1 of R145: a watch ends (R150). -/
def watchStep (d : DispenserId) (final : Bool) (delivered : Nat) (s : State) : State :=
  let x := s.dispenser d
  match x.watch with
  | some w =>
    if final && !x.state.holdsSale then
      let s := s.setDispenser d { x with watch := none }
      if delivered > w.volume then
        lowerStock x.grade (delivered - w.volume) (raise (.fuelDiscrepancy d w.volume delivered w.sale) s)
      else s
    else s
  | none => s

/-- Step 2 of R145 for a report with the final flag clear. -/
def authorisedStep (d : DispenserId) (delivered : Nat) (s : State) : State :=
  let x := s.dispenser d
  if x.state = .authorised then
    if delivered > 0 then
      putDispenser d { x with state := .delivering, enableSeen := true, nozzleTimer := none,
                              sale := x.sale.map (fun y => { y with highest := delivered }) } s
    else s.setDispenser d { x with enableSeen := true }
  else s

/-- Step 3 of R145 with the overrun test of R144. -/
def volumeStep (d : DispenserId) (delivered : Nat) (s : State) : State :=
  let x := s.dispenser d
  match x.state.holdsSale && decide (x.state ≠ .authorised), x.sale with
  | true, some y =>
    let y := { y with highest := max y.highest delivered }
    if delivered > y.preset + x.tolerance ∧ ¬ y.overrun then
      raise (.fuelOverrun d y.preset delivered) (putDispenser d { x with sale := some { y with overrun := true } } s)
    else s.setDispenser d { x with sale := some y }
  | _, _ => s

/-- Step 4 of R145. -/
def hangStep (d : DispenserId) (lifted : Bool) (s : State) : State :=
  let x := s.dispenser d
  if x.state = .delivering ∧ lifted = false then putDispenser d { x with state := .settling } s else s

/-- Step 5 of R145; a report taken in DELIVERING is not the final report. -/
def finalStep (d : DispenserId) (settling final : Bool) (delivered : Nat) (s : State) : State :=
  match settling && final, (s.dispenser d).sale with
  | true, some y => settleSale d (max delivered y.highest) false s
  | _, _ => s

/-- A good report of a dispenser station, in the six steps of R145. A report taken in AUTHORISED with the final flag set is passed
over for step 2 and the next ones, its card event among them (log entry 54). -/
def takeDispenserReport (d : DispenserId) (lifted final : Bool) (delivered : Nat) (card : Option CardNumber) (s : State) :
    State :=
  let settling := decide ((s.dispenser d).state = .settling)
  let s := watchStep d final delivered s
  if (s.dispenser d).state = .authorised ∧ final = true then s
  else
    let s := hangStep d lifted (volumeStep d delivered (authorisedStep d delivered s))
    let s := finalStep d settling final delivered s
    match card with
    | some n => takeFuelCard d n s
    | none => s

/-- The dispenser record that names a station (R145). -/
def State.dispenserAt (s : State) (st : StationId) : Option DispenserId :=
  ((entries s.fuel.dispensers).find? (fun e => decide (e.2.station = some st))).map (·.1)

/-! ### The emergency stop (R151) -/

/-- One dispenser at the assertion of ESTOP. -/
def stopDispenser (d : DispenserId) (s : State) : State :=
  let x := s.dispenser d
  match x.state with
  | .delivering => putDispenser d { x with state := .settling, sale := x.saleStopped } s
  | .authorised => abandonSale d .stopped s
  | .idle => putDispenser d { x with state := .stopped } s
  | .settling => putDispenser d x s
  | _ => s

/-- One dispenser at the release of ESTOP. -/
def resumeDispenser (d : DispenserId) (s : State) : State :=
  let x := s.dispenser d
  match x.state with
  | .stopped => putDispenser d { x with state := .idle } s
  | .settling => putDispenser d x s
  | _ => s

/-- The taken level of ESTOP, with the pin level and sample that it stands for (R189). -/
def takeEstop (l : TakenLevel) (s : State) : State := { s with lines := { s.lines with estop := Input.atLevel l } }

/-- ESTOP is taken as asserted (R151, R189): the dispensers are stopped in ascending order, the model's choice (log entry 47). -/
def execEstopAsserted (s : State) : Host.Outcome State Fault Refusal :=
  event (fun s =>
    if s.lines.estop.taken = .asserted then s
    else raise (.fuelEstop true) (forEach stopDispenser (List.finRange 4) (takeEstop .asserted s))) s

/-- ESTOP is taken as released (R151, R189; the first release after a start: log entry 31; the dispensers in ascending order: log
entry 47). -/
def execEstopReleased (s : State) : Host.Outcome State Fault Refusal :=
  event (fun s =>
    if s.lines.estop.taken = .released then s
    else raise (.fuelEstop false) (forEach resumeDispenser (List.finRange 4) (takeEstop .released s))) s

/-! ### The sale journal (R153) -/

/-- READ SALE (R153). -/
def readSaleOwner : Owner := fun s =>
  match s.fuel.journal with
  | r :: _ => (s, .done r.coded)
  | [] => done s

def execReadSale (h : ReqHeader) (p : List Byte) (s : State) : Host.Outcome State Fault Refusal :=
  request h 0x46 p readSaleOwner s

/-- DROP SALE (R153). -/
def dropSaleOwner (number : Nat) : Owner := fun s =>
  if number > 65535 then refuse .badValue s
  else
    match s.fuel.journal with
    | [] => refuse .state s
    | r :: l => if r.number = number then done { s with fuel := { s.fuel with journal := l } } else refuse .mismatch s

def execDropSale (h : ReqHeader) (p : List Byte) (s : State) : Host.Outcome State Fault Refusal :=
  request h 0x47 p (dropSaleOwner (rd p 0 2)) s

end Sys2Proof.Machine
end

