-- ==== Sys2Proof/Machine/Gates.lean ====
section
/-! DEFINITION. The Gate Controller (chapter 9): credentials, the entry and exit decisions, door openings and the count, alarms,
emergency release, and the passage log. -/

namespace Sys2Proof.Machine

/-! ### Gates, their images and the log (R158, R159, R170) -/

/-- A gate record is written, with its reader's image and place on the attention list (R77, R159). -/
def putGate (g : PontoonId) (x : Gate) (s : State) : State :=
  let s := s.setGate g x
  let s := match x.reader with
    | some st => modifyImage st (fun im => { im with lock := x.lock, gateDisplay := x.display }) s
    | none => s
  refreshNamed x.reader s

/-- A passage log record is written at the next position (R170). -/
def writeLog (g : PontoonId) (number : Option CardNumber) (dir : Direction) (result : PassageResult) (s : State) : State :=
  let a := s.access
  let r : PassageRecord := { sequence := a.nextSequence, time := s.stamp, gate := g, number := number, direction := dir,
                             result := result, headcount := (s.gate g).headcount }
  { s with access := { a with log := a.log.set a.nextPosition (some r), nextPosition := a.nextPosition + 1,
                              nextSequence := (a.nextSequence + 1) % 65536 } }

/-- A passage is voided (R166, R168). -/
def voidPassage (g : PontoonId) (x : Passage) (s : State) : State :=
  writeLog g (x.credential.map (·.2)) x.direction .void s

/-- All pending passages of a gate are voided, from the oldest (R166, R168). -/
def voidPassages (g : PontoonId) (s : State) : State :=
  forEach (voidPassage g) (s.gate g).passages s

/-! ### Credential and gate records (R156, R158) -/

/-- Check 3 of R156. -/
def State.credentialStale (s : State) (v : CredentialSettings) : Bool :=
  match v.kind with
  | .guest => !v.stay.any (fun y => decide ((s.stay y).state = .expected) || decide ((s.stay y).state = .arrived))
  | .crew => v.account.any (fun a => decide ((s.account a).state = .closed))
  | _ => false

/-- An accepted credential write (R156). -/
def Credential.written (v : CredentialSettings) (old : Option Credential) : Credential :=
  { number := v.number, kind := v.kind, stay := v.stay, account := v.account, pontoons := v.pontoons,
    validFrom := v.validFrom, validTo := v.validTo, state := v.state,
    zone := old.bind (fun c => if c.number = v.number then c.zone else none), exitExpiry := none, expiryMet := false }

/-- WRITE RECORD to the credential table; kind NONE, code 4, empties the slot (R156). -/
def writeCredential (index : Nat) (w : CredentialWrite) : Owner := fun s =>
  match idOf 1024 index with
  | none => refuse .badValue s
  | some i =>
    if w.kind = 4 then done (s.setCredential i none)
    else
      match checkCredential w with
      | none => refuse .badValue s
      | some v =>
        if (s.credentialsWhere (fun c => decide (c.number = v.number))).any (fun j => decide (j ≠ i)) then
          refuse .duplicate s
        else if s.credentialStale v then refuse .state s
        else done (s.setCredential i (some (Credential.written v (s.credential i))))

def execWriteCredentialRecord (h : ReqHeader) (p : List Byte) (s : State) : Host.Outcome State Fault Refusal :=
  request h 0x05 (17 :: p) (recordWrite 20 (fun i r => writeCredential i (rdCredential r)) p) s

/-- Another gate record names the reader station (R158). -/
def State.readerTaken (s : State) (g : PontoonId) (st : Option StationId) : Bool :=
  st.isSome && (entries s.access.gates).any (fun e => decide (e.1 ≠ g) && decide (e.2.reader = st))

/-- An accepted gate write (R158). A new reader takes the image, and both readers stand on the attention list as their conditions
then do: a former one whose image lock is UNLOCKED keeps its place (R77; log entries 25 and 48). -/
def applyGateWrite (g : PontoonId) (v : GateSettings) (s : State) : State :=
  let x := s.gate g
  let x' := { x with reader := v.reader, unlockTime := v.unlockTime, heldLimit := v.heldLimit }
  if x.reader = v.reader then s.setGate g x' else refreshNamed x.reader (putGate g x' s)

/-- WRITE RECORD to the gate table (R158). -/
def writeGate (index : Nat) (w : GateWrite) : Owner := fun s =>
  match idOf 12 index, checkGate w with
  | some g, some v =>
    if s.readerTaken g v.reader then refuse .duplicate s
    else if (s.gate g).reader ≠ v.reader ∧ (s.gate g).passages ≠ [] then refuse .state s
    else done (applyGateWrite g v s)
  | _, _ => refuse .badValue s

def execWriteGateRecord (h : ReqHeader) (p : List Byte) (s : State) : Host.Outcome State Fault Refusal :=
  request h 0x05 (18 :: p) (recordWrite 6 (fun i r => writeGate i (rdGate r)) p) s

/-! ### The count (R165) -/

/-- A pontoon's headcount rises by one, and stays at 255. -/
def countIn (p : PontoonId) (s : State) : State :=
  s.setGate p { s.gate p with headcount := min 255 ((s.gate p).headcount + 1) }

/-- A pontoon's headcount falls by one, and stays at 0. -/
def countOut (p : PontoonId) (s : State) : State :=
  s.setGate p { s.gate p with headcount := (s.gate p).headcount - 1 }

/-- The credential a passage carries, if its slot still holds the passage's number (R165). -/
def State.passageCredential (s : State) (x : Passage) : Option (CredentialSlot × Credential) :=
  match x.credential with
  | some (i, n) =>
    match s.credential i with
    | some c => if c.number = n then some (i, c) else none
    | none => none
  | none => none

/-- The zone of a credential. -/
def setZone (i : CredentialSlot) (c : Credential) (z : Option PontoonId) (s : State) : State :=
  s.setCredential i (some { c with zone := z })

/-- A completed IN passage changes counts and zone (R165). -/
def completeIn (g : PontoonId) (x : Passage) (s : State) : State :=
  match s.passageCredential x with
  | none => countIn g s
  | some (i, c) =>
    match c.zone with
    | none => setZone i c (some g) (countIn g s)
    | some z =>
      if z = g then s
      else setZone i c (some g) (raise (.zoneCorrected i c.number z g) (countOut z (countIn g s)))

/-- A completed OUT passage changes count and zone (R165). -/
def completeOut (g : PontoonId) (x : Passage) (s : State) : State :=
  let s := countOut g s
  match s.passageCredential x with
  | some (i, c) => if c.zone = some g then setZone i c none s else s
  | none => s

/-- A passage is completed and logged (R165, R170). -/
def completePassage (g : PontoonId) (x : Passage) (s : State) : State :=
  let s := match x.direction with
    | .in => completeIn g x s
    | .out => completeOut g x s
  writeLog g (x.credential.map (·.2)) x.direction (match x.direction with | .in => .admitted | .out => .exit) s

/-! ### The entry decision (R161, R162) -/

/-- The account of a credential at the gates (R161). -/
def State.gateAccount (s : State) (c : Credential) : Option AccountId :=
  match c.kind with
  | .guest => c.stay.map (fun y => (s.stay y).settings.account)
  | .crew => c.account
  | _ => none

/-- Whether an ARRIVED stay of account `a` occupies a berth of pontoon `p` (R161). -/
def State.crewBerthOn (s : State) (a : AccountId) (p : PontoonId) : Bool :=
  s.register.stays.toList.any (fun y =>
    decide (y.state = .arrived) && decide (y.settings.account = a) &&
    y.berth.any (fun b => decide ((s.berth b).pontoon = p)))

/-- Whether a pontoon is permitted to a credential (R161). -/
def State.permitted (s : State) (c : Credential) (p : PontoonId) : Bool :=
  match c.kind with
  | .guest =>
    c.stay.any (fun y =>
      (decide ((s.stay y).state = .expected) || decide ((s.stay y).state = .arrived)) &&
      (s.stay y).berth.any (fun b => decide ((s.berth b).pontoon = p)))
  | .crew => c.pontoons.getLsbD p.val || c.account.any (fun a => s.crewBerthOn a p)
  | _ => c.pontoons.getLsbD p.val

/-- Tests 2 to 5 of R161; the first that fails gives the reason. -/
def entryTests (s : State) (g : PontoonId) (c : Credential) : Option DenyReason :=
  if c.state ≠ .active then some .expired
  else if s.clock.isSet && !c.inValidity s.clock.value then some .expired
  else if ¬ s.permitted c g then some .notPermitted
  else
    match s.gateAccount c with
    | some a => if (s.account a).state = .suspended then some .suspended else none
    | none => none

/-- The curfew mode that applies now: 0 outside the window and while the clock is unset (R162). -/
def State.curfewNow (s : State) (g : PontoonId) : Nat :=
  let v := s.pontoon g
  if s.clock.isSet && inWindow s.timeOfDay v.curfewStart v.curfewEnd false then v.curfewMode else 0

/-- Tests 7 to 9 of R162. -/
def roomTests (s : State) (g : PontoonId) (c : Credential) : Option DenyReason :=
  let x := s.gate g
  if (s.pontoon g).passbackStrict && decide (c.zone = some g) then some .passback
  else if decide (x.headcount ≥ (s.pontoon g).peopleCapacity) && !x.unreliable && decide (c.kind ≠ .staff) then some .full
  else if x.passages.length ≥ Config.passagePlaces then some .busy
  else none

/-- A denial: the display code of its reason and a log record (R159, R162). -/
def denyEntry (g : PontoonId) (n : CardNumber) (r : DenyReason) (s : State) : State :=
  writeLog g (some n) .in (.denied r) (putGate g { s.gate g with display := 4 + r.ctorIdx } s)

/-- The gate unlocks for a passage: the timer runs to the later of its present end and now plus the unlock time (R162). -/
def Gate.unlockedAt (x : Gate) (now : Nat) (display : Nat) : Gate :=
  let e := now + x.unlockTime * Config.secondMs
  { x with lock := .unlocked, unlockEnd := some (max e (x.unlockEnd.getD 0)), display := display }

/-- A grant (R162). The grant time is read from the marina clock, 0 while it is unset: the model's choice (log entry 43). -/
def grantEntry (g : PontoonId) (i : CredentialSlot) (c : Credential) (s : State) : State :=
  let s := match c.kind, c.stay with
    | .guest, some y => match (s.stay y).berth with
      | some b => autoArrive y b .gate s
      | none => s
    | _, _ => s
  let exhausted := (s.gateAccount c).any (fun a => (s.account a).exhausted)
  let x := s.gate g
  let q : Passage := { credential := some (i, c.number), direction := .in, grantTime := s.stamp }
  let x := { x with passages := x.passages ++ [q] }
  putGate g (x.unlockedAt s.now (if exhausted then 2 else 1)) s

/-- A known credential at the gate, from test 2 on (R161, R162). -/
def decideEntry (g : PontoonId) (i : CredentialSlot) (c : Credential) (s : State) : State :=
  let s := if c.state = .active then noteClockUse s else s
  match entryTests s g c with
  | some r => denyEntry g c.number r s
  | none =>
    let mode := s.curfewNow g
    if (mode = 1 ∨ mode = 3) ∧ c.kind ≠ .staff then
      denyEntry g c.number .curfew (if mode = 1 then raise (.curfewDenied g c.number c.kind) s else s)
    else
      match roomTests s g c with
      | some r => denyEntry g c.number r s
      | none =>
        let s := grantEntry g i c s
        if mode = 2 then raise (.curfewEntry g c.number c.kind) s else s

/-- A card presented for IN at a gate that is not RELEASED (R161). -/
def cardIn (g : PontoonId) (n : CardNumber) (s : State) : State :=
  match s.cardSlot n with
  | none => denyEntry g n .unknown s
  | some i =>
    match s.credential i with
    | none => denyEntry g n .unknown s
    | some c => decideEntry g i c s

/-! ### Exits (R163) -/

/-- A card presented for OUT, or the exit button, at a gate that is not RELEASED (R163). -/
def letOut (g : PontoonId) (n : Option CardNumber) (s : State) : State :=
  let credential := match n with
    | some n => (s.cardSlot n).map (fun i => (i, n))
    | none => none
  let x := s.gate g
  if x.passages.length < Config.passagePlaces then
    let q : Passage := { credential := credential, direction := .out, grantTime := s.stamp }
    putGate g ({ x with passages := x.passages ++ [q] }.unlockedAt s.now 3) s
  else writeLog g (credential.map (·.2)) .out .void (putGate g (x.unlockedAt s.now 3) s)

/-- The event of a reader's report (R160, R168). -/
def takeReaderEvent (g : PontoonId) (e : ReaderEvent) (s : State) : State :=
  let number : Option CardNumber := match e with | .cardIn n => some n | .cardOut n => some n | .exitButton => none
  let dir : Direction := match e with | .cardIn _ => .in | _ => .out
  if (s.gate g).lock = .released then writeLog g number dir .released s
  else
    match e with
    | .cardIn n => cardIn g n s
    | .cardOut n => letOut g (some n) s
    | .exitButton => letOut g none s

/-! ### Doors (R160, R164, R167) -/

/-- A door opening (R164): it completes the oldest passage of an UNLOCKED gate and is forced at a LOCKED one. The door-held
timer does not run while the gate is RELEASED (R167). -/
def openDoor (g : PontoonId) (s : State) : State :=
  let x := s.gate g
  let held := if x.lock = .released then none else some (s.after (x.heldLimit * Config.secondMs))
  let x := { x with door := .open, heldTimer := held }
  match x.lock with
  | .released => s.setGate g x
  | .locked => raise (.gateForced g x.headcount) (s.setGate g { x with forced := true })
  | .unlocked =>
    match x.passages with
    | [] => s.setGate g x
    | q :: l => completePassage g q (putGate g { x with passages := l } s)

/-- The door state of a reader's report against the one last taken (R160). -/
def takeDoor (g : PontoonId) (isOpen : Bool) (s : State) : State :=
  let x := s.gate g
  match x.door, isOpen with
  | .closed, true => openDoor g s
  | .open, false => s.setGate g { x with door := .closed, heldTimer := none }
  | .unknown, true => s.setGate g { x with door := .open }
  | .unknown, false => s.setGate g { x with door := .closed }
  | _, _ => s

/-- A good report of a gate reader, for the gate in use that names it (R160). -/
def takeReaderReport (g : PontoonId) (doorOpen : Bool) (e : Option ReaderEvent) (s : State) : State :=
  let s := match e with
    | some e => takeReaderEvent g e s
    | none => s
  takeDoor g doorOpen s

/-- The gate in use whose record names a station (R160). -/
def State.gateAt (s : State) (st : StationId) : Option PontoonId :=
  ((entries s.access.gates).find? (fun e => decide (e.2.reader = some st) && s.gateInUse e.1)).map (·.1)

/-- A change of the state of a station that a gate record names as its reader, whatever its kind (R158, R160; log entry 42). -/
def gateStationChanged (st : StationId) (s : State) : State :=
  forEach (fun g s => if (s.gate g).reader = some st then s.setGate g { s.gate g with door := .unknown, heldTimer := none }
                      else s) (List.finRange 12) s

/-! ### Gate timers and alarms (R166, R167) -/

/-- The unlock timer of a gate runs out (R166). -/
def execUnlockTimerExpiry (g : PontoonId) (s : State) : Host.Outcome State Fault Refusal :=
  event (fun s =>
    match (s.gate g).unlockEnd with
    | some e =>
      let s := voidPassages g (s.advanceTo e)
      putGate g { s.gate g with lock := .locked, unlockEnd := none, passages := [], display := 0 } s
    | none => s) s

/-- The door-held timer of a gate runs out (R167). -/
def execDoorHeldTimeout (g : PontoonId) (s : State) : Host.Outcome State Fault Refusal :=
  event (fun s =>
    match (s.gate g).heldTimer with
    | some e =>
      let s := s.advanceTo e
      raise (.gateHeldOpen g (s.gate g).lock) (s.setGate g { s.gate g with heldTimer := none })
    | none => s) s

/-- CLEAR GATE ALARM (R167). -/
def clearGateAlarmOwner (gate : Nat) : Owner := fun s =>
  match idOf 12 gate with
  | none => refuse .badValue s
  | some g => done (s.setGate g { s.gate g with forced := false })

def execClearGateAlarm (h : ReqHeader) (p : List Byte) (s : State) : Host.Outcome State Fault Refusal :=
  request h 0x53 p (clearGateAlarmOwner (rd p 0 2)) s

/-! ### Emergency release (R168, R169) -/

/-- Steps 2 to 5 of R168, which a gate that comes into use also takes. -/
def joinRelease (g : PontoonId) (s : State) : State :=
  putGate g { s.gate g with lock := .released, unlockEnd := none, passages := [], display := 12, heldTimer := none,
                            unreliable := true } s

/-- One gate at the release, if it is in use (R168). -/
def releaseGate (g : PontoonId) (s : State) : State :=
  if s.gateInUse g then joinRelease g (voidPassages g s) else s

/-- The gates become released (R168). -/
def releaseAll (cause : ReleaseCause) (s : State) : State :=
  raise (.gatesReleased cause) (forEach releaseGate (List.finRange 12) s)

/-- One gate at the secure (R169). -/
def secureGate (g : PontoonId) (s : State) : State :=
  if s.gateInUse g && decide ((s.gate g).lock = .released) then
    putGate g { s.gate g with lock := .locked, display := 0 } s
  else s

/-- The gates are secured (R169). -/
def secureAll (cause : ReleaseCause) (s : State) : State :=
  raise (.gatesSecured cause) (forEach secureGate (List.finRange 12) s)

/-- The taken level of FIRE, with the pin level and sample that it stands for (R189). -/
def takeFire (l : TakenLevel) (s : State) : State := { s with lines := { s.lines with fire := Input.atLevel l } }

/-- The office release flag (R168). -/
def setOfficeRelease (b : Bool) (s : State) : State := { s with access := { s.access with officeRelease := b } }

/-- FIRE is taken as asserted (R168). -/
def execFireAsserted (s : State) : Host.Outcome State Fault Refusal :=
  event (fun s =>
    if s.lines.fire.taken = .asserted then s
    else if s.gatesReleased then takeFire .asserted s
    else releaseAll .fire (takeFire .asserted s)) s

/-- FIRE is taken as released (R169). -/
def execFireReleased (s : State) : Host.Outcome State Fault Refusal :=
  event (fun s =>
    if s.lines.fire.taken = .asserted ∧ s.access.officeRelease = false then secureAll .fire (takeFire .released s)
    else takeFire .released s) s

/-- RELEASE GATES (R168). -/
def releaseGatesOwner : Owner := fun s =>
  if s.access.officeRelease then refuse .state s
  else if s.gatesReleased then done (setOfficeRelease true s)
  else done (releaseAll .office (setOfficeRelease true s))

def execReleaseGates (h : ReqHeader) (p : List Byte) (s : State) : Host.Outcome State Fault Refusal :=
  request h 0x50 p releaseGatesOwner s

/-- SECURE GATES (R169). -/
def secureGatesOwner : Owner := fun s =>
  if s.access.officeRelease = false then refuse .state s
  else if s.lines.fire.asserted then done (setOfficeRelease false s)
  else done (secureAll .office (setOfficeRelease false s))

def execSecureGates (h : ReqHeader) (p : List Byte) (s : State) : Host.Outcome State Fault Refusal :=
  request h 0x51 p secureGatesOwner s

/-- SET HEADCOUNT (R169). -/
def setHeadcountOwner (pontoon count : Nat) : Owner := fun s =>
  match idOf 12 pontoon with
  | none => refuse .badValue s
  | some p =>
    if s.gatesReleased then refuse .state s
    else
      let n := min 255 count
      (s.setGate p { s.gate p with headcount := n, unreliable := false }, .done (le 1 n))

def execSetHeadcount (h : ReqHeader) (p : List Byte) (s : State) : Host.Outcome State Fault Refusal :=
  request h 0x52 p (setHeadcountOwner (rd p 0 2) (rd p 2 2)) s

/-! ### EXIT_ONLY expiry (R157) -/

/-- The expiry of an EXIT_ONLY credential that a clock event has met (R157, R185; log entry 8). -/
def execExitOnlyExpiry (i : CredentialSlot) (s : State) : Host.Outcome State Fault Refusal :=
  event (fun s =>
    match s.credential i with
    | some c =>
      if c.state = .exitOnly ∧ c.expiryMet then
        s.setCredential i (some { c with state := .expired, exitExpiry := none, expiryMet := false })
      else s
    | none => s) s

end Sys2Proof.Machine
end

