-- ==== Sys2Proof/Machine/Posts.lean ====
section
/-! DEFINITION. What the Shore Power Unit and the Water Service take from a post's report (R88, R89, R97, R103 to R109, R127 to
R131), entry by entry and step by step. -/

namespace Sys2Proof.Machine

/-! ### Metering an outlet (R105, R106) -/

/-- The outlet record that names a post and socket. -/
def State.outletAt (s : State) (st : StationId) (k : Fin 4) : Option OutletId :=
  (s.outletsWhere (fun x => decide (x.post = some st) && decide (x.socket = k))).head?

/-- Step 1 of R88: the meter rule of R105 and the last current. A reading that finds final owed set counts as the final
reading (R105, R106; log entry 30). -/
def readOutlet (o : OutletId) (e : OutletEntry) (s : State) : State :=
  let x := s.outlet o
  let s1 := s.setOutlet o { x with baseline := some e.energy, finalOwed := false, lastCurrent := e.current }
  let s2 := match x.baseline with
    | none => s1
    | some old =>
      let delta := (e.energy - old).toNat
      if delta > Config.powerDeltaCap then raise (.meterJump (.outlet o) old e.energy) s1
      else if x.state.energised || x.finalOwed then
        match x.billing with
        | some a => chargePower a delta s1
        | none => s1
      else s1
  if x.finalOwed then reportFinalRead (.outlet o) s2 else s2

/-! ### Resynchronisation (R109) -/

/-- The grant to be resumed fits the headroom of the pontoon it was taken from. -/
def State.resumable (s : State) (o : OutletId) : Bool :=
  match (s.outlet o).grantPontoon with
  | some p => decide (((s.outlet o).granted : Int) ≤ s.headroom p)
  | none => true

/-- A resumed outlet: GRACE when its billing account is in credit stop, else ON; a LIMITED one joins the upgrade list (R109). -/
def resumeOutlet (o : OutletId) (s : State) : State :=
  let stopped := match (s.outlet o).billing with | some a => s.inCreditStop a | none => false
  let s := putOutlet o { s.outlet o with state := .on } s
  let s := if stopped then enterGrace o s else s
  let x := s.outlet o
  match x.grantPontoon with
  | some p =>
    if x.limited && (decide (x.state = .on) || decide (x.state = .grace)) then
      s.setStart p { s.start p with upgrades := (s.start p).upgrades ++ [o] }
    else s
  | none => s

/-- Step 2 of R88. -/
def resyncStep (o : OutletId) (e : OutletEntry) (s : State) : State :=
  if (s.outlet o).state = .resync ∧ ¬ e.leakage ∧ ¬ e.overcurrent then
    let passes := match permit s o with | .passed _ => true | _ => false
    if e.energised && e.plug && passes then
      if s.resumable o then resumeOutlet o s else enterClosing o .queued none s
    else enterClosing o (if e.plug then .plugged else .vacant) none s
  else s

/-! ### Post trips (R97) -/

/-- The cause of a post trip: one flag names it; with both set it is a free value (log entry 21). -/
def postTripCause (e : OutletEntry) (s : State) : TripCause × State :=
  if e.leakage && e.overcurrent then
    let d := draw s
    (if Config.bothFlagsAreLeakage d.1 then .leakage else .postOvercurrent, d.2)
  else (if e.leakage then .leakage else .postOvercurrent, s)

/-- Step 3 of R88. The grant is released before the outlet takes its outcome: the model's choice (`releaseTo`; log entry 51). The
Register hears of the final reading once the outlet has reached its new state: the model's choice (R97,
R103; log entry 49). -/
def postTripStep (o : OutletId) (e : OutletEntry) (s : State) : State :=
  if e.leakage || e.overcurrent then
    let x := s.outlet o
    let locked := s.tripLocks o
    if x.state = .closing then
      if x.target = some .plugged ∨ x.target = some .shed ∨ x.target = some .queued then
        let c := postTripCause e s
        noteTrip o c.1 locked
          (c.2.setOutlet o { x with target := some (if locked then .locked else .tripped) })
      else s
    else if x.state.energised then
      let c := postTripCause e s
      let s := releaseTo o (if locked then .locked else .tripped) c.2
      reportFinalRead (.outlet o) (noteTrip o c.1 locked s)
    else s
  else s

/-! ### The plug (R89) -/

/-- The arrival that a plug taken as inserted makes, at any outlet of the berth that its stay holds (R18). -/
def plugArrival (o : OutletId) (s : State) : State :=
  match (s.outlet o).berth with
  | some b => match (s.berth b).currentStay with
    | some y => autoArrive y b .plug s
    | none => s
  | none => s

/-- A taken insertion makes the arrival of R18 first, whatever the state of the outlet, and then acts by state (R89). R89's "no
other change" at a LOCKED outlet, and at a CLOSING one with target LOCKED, is read of the outlet's record, which the arrival
leaves: the model's choice (log entry 37). -/
def plugInserted (o : OutletId) (s : State) : State :=
  let s := plugArrival o s
  match (s.outlet o).state with
  | .vacant => reconsider s (applyPermit o s)
  | .closing =>
    if (s.outlet o).target = some .vacant then s.setOutlet o { s.outlet o with target := some .plugged } else s
  | _ => s

/-- A taken removal acts by state (R89). The Register hears of the final reading once the outlet is VACANT: the model's choice
(log entry 49). -/
def plugRemoved (o : OutletId) (s : State) : State :=
  let x := s.outlet o
  match x.state with
  | .plugged => putOutlet o { x with state := .vacant, reason := none } s
  | .shed => putOutlet o { x with state := .vacant, reason := none } s
  | .queued => reconsider s (putOutlet o { x with state := .vacant, reason := none } (leaveStarts o s))
  | .starting => reportFinalRead (.outlet o) (releaseTo o .vacant s)
  | .on => reportFinalRead (.outlet o) (releaseTo o .vacant s)
  | .grace => reportFinalRead (.outlet o) (releaseTo o .vacant s)
  | .resync => reportFinalRead (.outlet o) (releaseTo o .vacant s)
  | .tripped => putOutlet o { x with state := .vacant, lastClear := some s.now } s
  | .closing =>
    if x.target = some .locked then s
    else if x.target = some .tripped then s.setOutlet o { x with target := some .vacant, lastClear := some s.now }
    else s.setOutlet o { x with target := some .vacant }
  | _ => s

/-- Step 4 of R88: the deglitch of the plug contact. -/
def plugStep (o : OutletId) (e : OutletEntry) (s : State) : State :=
  let x := s.outlet o
  if e.plug = x.plugTaken then s.setOutlet o { x with deglitch := 0 }
  else if x.deglitch + 1 ≥ s.settings.deglitch then
    let s := s.setOutlet o { x with deglitch := 0, plugTaken := e.plug }
    if e.plug then plugInserted o s else plugRemoved o s
  else s.setOutlet o { x with deglitch := x.deglitch + 1 }

/-! ### Confirmation (R103) -/

/-- Where a confirmed outlet goes without a permit; the other targets are decided by the permit. -/
def fixedTarget : Option CloseTarget → Option OutletState
  | some .vacant => some .vacant
  | some .tripped => some .tripped
  | some .locked => some .locked
  | _ => none

/-- Step 5 of R88. A target that calls for a permit has those of the outlet's berth evaluated (R91, R103). The Register hears of
the final reading once the outlet has reached its new state, so that a permit finds its berth still CLEARING: the model's choice
(R103; log entry 49). -/
def confirmStep (o : OutletId) (e : OutletEntry) (s : State) : State :=
  let x := s.outlet o
  if x.state = .closing ∧ ¬ e.energised then
    let s1 := s.setOutlet o { x with estimated := false }
    let s2 := match fixedTarget x.target with
      | some st => releaseTo o st s1
      | none => reconsider s1 (refreshNamed x.post (returnPlugged o (releaseGrant o s1)))
    reportFinalRead (.outlet o) s2
  else s

/-! ### Current limits (R94, R96) -/

/-- The limit an outlet is held to: start limit, hold limit, or none. -/
def State.currentLimit (s : State) (o : OutletId) : Option (Nat × TripCause) :=
  let x := s.outlet o
  match x.state with
  | .starting =>
    x.grantPontoon.map (fun p => (x.granted * (s.start p).startFactor / 100, .inrush))
  | .on => some (x.granted * 125 / 100, .overcurrent)
  | .grace => some (x.granted * 125 / 100, .overcurrent)
  | _ => none

/-- Step 6 of R88. -/
def limitStep (o : OutletId) (e : OutletEntry) (s : State) : State :=
  match s.currentLimit o with
  | some (limit, cause) =>
    let x := s.outlet o
    let n := if e.current > limit then min 7 (x.overLimit + 1) else 0
    let s := s.setOutlet o { x with overLimit := n }
    if e.current > limit ∧ n ≥ s.settings.tripCount then limitTrip o cause s else s
  | none => s

/-- One outlet entry of a post report, in the six steps of R88. -/
def takeOutletEntry (st : StationId) (k : Fin 4) (e : OutletEntry) (s : State) : State :=
  match s.outletAt st k with
  | some o => limitStep o e (confirmStep o e (plugStep o e (postTripStep o e (resyncStep o e (readOutlet o e s)))))
  | none => s

/-! ### Metering a tap (R127, R128, R131) -/

/-- The tap record that names a post and tap index. -/
def State.tapAt (s : State) (st : StationId) (k : Fin 2) : Option TapId :=
  (s.tapsWhere (fun x => decide (x.post = some st) && decide (x.tapIndex = k))).head?

/-- Step 1 of R127: the meter rule of R128. -/
def readTap (t : TapId) (e : TapEntry) (s : State) : State :=
  let x := s.tap t
  match x.baseline with
  | none => s.setTap t { x with baseline := some e.flow, lastDelta := 0 }
  | some old =>
    let delta := (e.flow - old).toNat
    if delta > Config.waterDeltaCap then
      raise (.meterJump (.tap t) old e.flow) (s.setTap t { x with baseline := some e.flow, lastDelta := 0 })
    else
      let stay := s.allowanceStay t
      let s := s.setTap t { x with baseline := some e.flow, lastDelta := delta }
      if x.state = .open ∨ x.finalOwed then
        match x.billing with
        | some a => chargeWater a stay delta s
        | none => s
      else s

/-- Step 2 of R127: `owed` is final owed as it stood on entry to step 1. -/
def confirmTap (t : TapId) (owed : Bool) (e : TapEntry) (s : State) : State :=
  if owed && !e.valveOpen then
    let s := reportFinalRead (.tap t) (s.setTap t { s.tap t with finalOwed := false })
    s.setTap t { s.tap t with allowanceStay := none }
  else s

/-- Step 3 of R127. -/
def creditTap (t : TapId) (s : State) : State :=
  let x := s.tap t
  let stopped := match x.billing with | some a => s.inCreditStop a | none => false
  if decide (x.state = .open) && stopped && !s.freeWaterLeft t then closeTap t .closed 3 s else s

/-- Step 4 of R127: the leak test of R131. `idle` says that the reading of step 1 was of step 5 of R128. -/
def leakTest (t : TapId) (idle : Bool) (e : TapEntry) (s : State) : State :=
  let x := s.tap t
  if x.state = .closed ∧ x.finalOwed = false then
    if e.flowing || (idle && decide (x.lastDelta > s.settings.leakThreshold)) then
      let n := min 7 (x.leakCount + 1)
      if n ≥ s.settings.tripCount then
        raise (.tapLeak t x.berth x.lastDelta) (putTap t { x with state := .leak, leakCount := n } 9 s)
      else s.setTap t { x with leakCount := n }
    else s.setTap t { x with leakCount := 0 }
  else s.setTap t { x with leakCount := 0 }

/-- One tap entry of a post report, in the four steps of R127. -/
def takeTapEntry (st : StationId) (k : Fin 2) (e : TapEntry) (s : State) : State :=
  match s.tapAt st k with
  | some t =>
    let x := s.tap t
    let idle := !(decide (x.state = .open)) && !x.finalOwed
    leakTest t idle e (creditTap t (confirmTap t x.finalOwed e (readTap t e s)))
  | none => s

/-! ### The toggle (R129) -/

/-- A tap opens for the stay on its berth. -/
def openTap (t : TapId) (y : StayId) (s : State) : State :=
  let x := s.tap t
  putTap t { x with state := .open, billing := some (s.stay y).settings.account, allowanceStay := some y, estimated := false,
                    leakCount := 0, runTimer := some (s.after (x.maxRun * Config.minuteMs)) } 1 s

/-- R129: a button press at a tap. -/
def toggleTap (t : TapId) (s : State) : State :=
  let x := s.tap t
  match x.state with
  | .open => closeTap t .closed 0 s
  | .leak => displayTap t 6 s
  | .locked => displayTap t 7 s
  | .closed =>
    if x.finalOwed then displayTap t 8 s
    else
      match x.berth.bind s.berthStay with
      | none => displayTap t 4 s
      | some y =>
        if (s.stay y).allowanceLeft > 0 ∨ ¬ s.inCreditStop (s.stay y).settings.account then openTap t y s
        else displayTap t 5 s

/-- A good report of a post, its two owners in the order of R72 (R88, R127). -/
def takePostReport (st : StationId) (outlets : List OutletEntry) (taps : List TapEntry) (toggle : Option (Fin 2))
    (s : State) : State :=
  let s := forEach (fun (k, e) => takeOutletEntry st k e) ((List.finRange 4).zip outlets) s
  let s := forEach (fun (k, e) => takeTapEntry st k e) ((List.finRange 2).zip taps) s
  match toggle with
  | some k => match s.tapAt st k with
    | some t => toggleTap t s
    | none => s
  | none => s

end Sys2Proof.Machine
end

