-- ==== Sys2Proof/Machine/Link.lean ====
section
/-! DEFINITION. The Branch Ports, the Poll Scheduler and the Relay Filter (chapter 4 and R181): port starts and stops, slots and
exchanges, station states, event numbers, reports handed to their owners, relays, and the records the port owns. -/

namespace Sys2Proof.Machine

/-! ### Station states (R69) -/

/-- The counts of a monitor's pontoon at a change of its state, its enabling and its disabling (R112). -/
def resetMonitor (st : StationId) (s : State) : State :=
  match (s.station st).kind, (s.station st).pontoon with
  | .feederMonitor, some p => monitorStationChanged p s
  | _, _ => s

/-- The port tells of a change of a station's state each block that has a record naming the station, whatever its kind (R132,
R148, R160), and the Shore Power Unit where it is a feeder monitor (R112). R69 has the owner by kind told: the rest is the
model's choice (log entry 42). -/
def stationChanged (st : StationId) (s : State) : State :=
  resetMonitor st (fuelStationChanged st (gateStationChanged st (waterStationChanged st s)))

/-- A station takes a state; a change is told (R69). -/
def enterStationState (st : StationId) (x : StationState) (s : State) : State :=
  if (s.station st).state = x then s else stationChanged st (s.setStation st { s.station st with state := x })

/-! ### The ring (R76) -/

/-- Insertion by ascending address. -/
def insertMember (m : Nat × StationId) : List (Nat × StationId) → List (Nat × StationId)
  | [] => [m]
  | x :: l => if m.1 ≤ x.1 then m :: x :: l else x :: insertMember m l

/-- The members of a branch's ring, by ascending address: its enabled stations while they are served (R76). -/
def State.ring (s : State) (b : BranchId) : List (Nat × StationId) :=
  ((entries s.link.stations).filterMap (fun e =>
    if decide (e.2.branch = b) && e.2.enabled && decide (e.2.state ≠ .unpolled) then some (e.2.address, e.1)
    else none)).foldr insertMember []

/-- The next member after an address, and whether the ring wraps (R76). -/
def nextMember (members : List (Nat × StationId)) (a : Nat) : Option (Nat × StationId) × Bool :=
  match members.find? (fun m => decide (a < m.1)) with
  | some m => (some m, false)
  | none => (members.head?, true)

/-- The position moves past address `a`; a wrap begins a new pass (R76). -/
def movePast (b : BranchId) (members : List (Nat × StationId)) (a : Nat) (s : State) : State :=
  let n := nextMember members a
  let x := s.branch b
  s.setBranch b { x with ringPosition := n.1.map (·.1), passServed := x.passServed && !n.2 }

/-- A member that leaves passes the position on (R76). -/
def leaveRing (b : BranchId) (a : Nat) (s : State) : State :=
  if (s.branch b).ringPosition = some a then movePast b (s.ring b) a s else s

/-- A station that joins an empty ring is named by the position (R76). -/
def joinRing (b : BranchId) (a : Nat) (s : State) : State :=
  if (s.branch b).ringPosition = none then s.setBranch b { s.branch b with ringPosition := some a } else s

/-! ### Port start and stop (R63) -/

/-- The enabled stations of a branch. -/
def State.enabledOn (s : State) (b : BranchId) : List StationId :=
  (entries s.link.stations).filterMap (fun e => if decide (e.2.branch = b) && e.2.enabled then some e.1 else none)

/-- One station at a port stop. -/
def unpollStation (st : StationId) (s : State) : State :=
  enterStationState st .unpolled (s.setStation st { s.station st with miss := 0, skip := 0 })

/-- The port stops (R63). -/
def stopPort (b : BranchId) (s : State) : State :=
  let s := s.setBranch b { s.branch b with ringPosition := none, passServed := false, slotCount := 0, relayMark := false,
                                           attention := [], idleUntil := none }
  forEach unpollStation (s.enabledOn b) s

/-- One station at a port start. -/
def discoverStation (st : StationId) (s : State) : State :=
  enterStationState st .unknown (s.setStation st { s.station st with miss := 0 })

/-- A station whose attention condition holds joins the list (R63, R68). -/
def attendIfDue (st : StationId) (s : State) : State := if s.attentionDue st then attend st s else s

/-- The position at the lowest address of the ring (R63, R82). -/
def ringAtLowest (b : BranchId) (s : State) : State :=
  s.setBranch b { s.branch b with ringPosition := ((s.ring b).head?).map (·.1), passServed := false, slotCount := 0,
                                  relayMark := false, idleUntil := none }

/-- The attention list is filled in ascending address order (R63; log entry 18). -/
def fillAttention (b : BranchId) (s : State) : State := forEach attendIfDue ((s.ring b).map (·.2)) s

/-- The port starts (R63). -/
def startPort (b : BranchId) (s : State) : State :=
  fillAttention b (ringAtLowest b (forEach discoverStation (s.enabledOn b) s))

/-- A rate code that waited takes effect when no exchange is in flight (R63). -/
def applyRate (b : BranchId) (s : State) : State :=
  let x := s.branch b
  if x.exchange.isSome ∨ x.activeRate = x.rateCode then s
  else
    let s := s.setBranch b { x with activeRate := x.rateCode }
    if x.activeRate = 0 then startPort b s else if x.rateCode = 0 then stopPort b s else s

/-! ### Branch and station records (R62, R68) -/

/-- WRITE RECORD to the branch table (R62). -/
def writeBranch (index : Nat) (w : BranchWrite) : Owner := fun s =>
  match idOf 6 index, checkBranch w with
  | some b, some v =>
    done (applyRate b (s.setBranch b { s.branch b with rateCode := v.rateCode, missLimit := v.missLimit,
                                                       answerTimeout := v.answerTimeout, ratio := v.ratio }))
  | _, _ => refuse .badValue s

def execWriteBranchRecord (h : ReqHeader) (p : List Byte) (s : State) : Host.Outcome State Fault Refusal :=
  request h 0x05 (8 :: p) (recordWrite 5 (fun i r => writeBranch i (rdBranch r)) p) s

/-- The settings part of a station record as it stands. -/
def Station.settings (x : Station) : StationSettings :=
  { kind := x.kind, branch := x.branch, address := x.address, enabled := x.enabled, outletCount := x.outletCount,
    tapCount := x.tapCount, pontoon := x.pontoon }

/-- A station record with another settings part. The image keeps the fields of every kind side by side, as last written: what
it holds after a change of kind or counts is the model's choice (R72; log entry 38). -/
def Station.withSettings (x : Station) (v : StationSettings) : Station :=
  { x with kind := v.kind, branch := v.branch, address := v.address, enabled := v.enabled, outletCount := v.outletCount,
           tapCount := v.tapCount, pontoon := v.pontoon }

/-- The checks of a write that enables a record, in the order of R68. -/
def enablingRefusal (s : State) (st : StationId) (v : StationSettings) : Option Reason :=
  let others := (entries s.link.stations).filter (fun e => decide (e.1 ≠ st) && e.2.enabled)
  if v.kind = .none then some .badValue
  else if others.any (fun e => decide (e.2.branch = v.branch) && decide (e.2.address = v.address)) then some .duplicate
  else if decide (v.kind = .feederMonitor) &&
      others.any (fun e => decide (e.2.kind = .feederMonitor) && decide (e.2.pontoon = v.pontoon)) then some .inUse
  else none

/-- An accepted enabling (R68). -/
def enableStation (st : StationId) (s : State) : State :=
  let x := s.station st
  let s := resetMonitor st (s.setStation st { x with miss := 0, skip := 0 })
  if (s.branch x.branch).activeRate = 0 then s
  else attendIfDue st (joinRing x.branch x.address (enterStationState st .unknown s))

/-- A disabling takes effect on the station, which leaves the attention list and the ring of branch `b`, where it stood at address
`a` (R68). -/
def completeDisable (st : StationId) (b : BranchId) (a : Nat) (s : State) : State :=
  let s := dismissFrom b st s
  leaveRing b a (unpollStation st (s.setStation st { s.station st with leaving := none }))

/-- A relay-down entry of a disabled station leaves with RELAY_DROPPED (R81). -/
def dropDisabled (st : StationId) (e : RelayEntry) (s : State) : State :=
  raise (.relayDropped st e.code e.tag .disabled) s

/-- Whether the exchange in flight on a branch is with a station. -/
def State.inExchange (s : State) (b : BranchId) (st : StationId) : Bool :=
  (s.branch b).exchange.any (fun e => decide (e.station = st))

/-- An accepted disabling: the station's relays leave at once, and the rest takes effect now or at the end of the exchange in
flight with it, whose reply is then discarded (R68, R81). -/
def disableStation (st : StationId) (s : State) : State :=
  let x := s.station st
  let b := s.branch x.branch
  let gone := b.relays.filter (fun e => decide (e.station = st))
  let s := s.setBranch x.branch { b with relays := b.relays.filter (fun e => decide (e.station ≠ st)) }
  let s := resetMonitor st (forEach (dropDisabled st) gone s)
  if s.inExchange x.branch st then
    let s := s.setStation st { s.station st with leaving := some (x.branch, x.address) }
    s.setBranch x.branch { s.branch x.branch with
      exchange := (s.branch x.branch).exchange.map (fun e => { e with discard := true }) }
  else completeDisable st x.branch x.address s

/-- A disabling that waits, if there is one, takes effect. -/
def settleDisabling (st : StationId) (s : State) : State :=
  match (s.station st).leaving with
  | some (b, a) => completeDisable st b a s
  | none => s

/-- An accepted station write (R68). A record written again while its disabling waits stays so, at the branch and address of the
exchange, unless the write enables it: the disabling then takes effect first (log entry 16). -/
def applyStationWrite (st : StationId) (v : StationSettings) (s : State) : State :=
  let s := if v.enabled then settleDisabling st s else s
  let was := (s.station st).enabled
  let s := s.setStation st ((s.station st).withSettings v)
  match was, v.enabled with
  | false, true => enableStation st s
  | true, false => disableStation st s
  | _, _ => s

/-- WRITE RECORD to the station table (R68). -/
def writeStation (index : Nat) (w : StationWrite) : Owner := fun s =>
  match idOf 128 index, checkStation w with
  | some st, some v =>
    let x := s.station st
    if x.enabled then
      if ({ v with enabled := true } : StationSettings) ≠ x.settings then refuse .state s
      else done (applyStationWrite st v s)
    else if v.enabled then
      match enablingRefusal s st v with
      | some r => refuse r s
      | none => done (applyStationWrite st v s)
    else done (applyStationWrite st v s)
  | _, _ => refuse .badValue s

def execWriteStationRecord (h : ReqHeader) (p : List Byte) (s : State) : Host.Outcome State Fault Refusal :=
  request h 0x05 (9 :: p) (recordWrite 9 (fun i r => writeStation i (rdStation r)) p) s

/-! ### Slots (R71, R77, R78, R80 to R82) -/

/-- An exchange begins (R65); the answer timeout is the branch's. -/
def beginExchange (b : BranchId) (st : StationId) (kind : ExchangeKind) (sent : List Byte) (s : State) : State :=
  let x := s.branch b
  s.setBranch b { x with exchange := some { station := st, kind := kind, sent := sent, timeoutAt := s.after x.answerTimeout,
                                            replyBegun := false, discard := false } }

/-- A POLL with the station's image and taken event number as they stand (R72, R73). -/
def sendPoll (b : BranchId) (st : StationId) (s : State) : State := beginExchange b st .poll (s.station st).poll s

/-- The attention list rotated to its first entry that can be polled: that station and the list with the entry at its tail
(R77). -/
def attentionPick (s : State) : Nat → List StationId → Option StationId × List StationId
  | 0, l => (none, l)
  | _ + 1, [] => (none, [])
  | n + 1, st :: l =>
    if (s.station st).state = .offline then attentionPick s n (l ++ [st]) else (some st, l ++ [st])

/-- The relay-down queue without the leading entries whose station is OFFLINE or UNPOLLED, each dropped with its notice
(R81). -/
def dropUnserved (b : BranchId) : List RelayEntry → State → State
  | [], s => s
  | e :: l, s =>
    if (s.station e.station).state = .offline ∨ (s.station e.station).state = .unpolled then
      dropUnserved b l
        (raise (.relayDropped e.station e.code e.tag .offline) (s.setBranch b { s.branch b with relays := l }))
    else s

/-- The head of the queue is sent as a RELAY, if any entry is left after the test of R81 (R80). -/
def sendRelay (b : BranchId) (s : State) : Bool × State :=
  let s := dropUnserved b (s.branch b).relays s
  match (s.branch b).relays with
  | e :: _ => (true, beginExchange b e.station .relay (e.telegram (s.station e.station).address) s)
  | [] => (false, s)

/-- The outcome of a ring poll: a member polled, the line held idle after a pass of members passed over, or an empty ring. -/
inductive RingPoll where
  | polled | idle | empty
  deriving DecidableEq, Repr

/-- The ring from its position: OFFLINE members are passed over with their skip counts, and the first other member or probe is
polled (R71, R76). The fuel is more than two passes of the longest ring. -/
def ringPoll : Nat → BranchId → State → RingPoll × State
  | 0, _, s => (.empty, s)
  | n + 1, b, s =>
    let members := s.ring b
    match (s.branch b).ringPosition.bind (fun a => members.find? (fun m => decide (m.1 = a))) with
    | none => (.empty, s)
    | some (a, st) =>
      let x := s.station st
      if x.state = .offline ∧ x.skip + 1 < Config.probePasses then
        let s := s.setStation st { x with skip := x.skip + 1 }
        let wraps := (nextMember members a).2
        let served := (s.branch b).passServed
        let s := movePast b members a s
        if wraps && !served then
          (.idle, s.setBranch b { s.branch b with idleUntil := some (s.after (s.branch b).answerTimeout) })
        else ringPoll n b s
      else
        let s := if x.state = .offline then s.setStation st { x with skip := 0 } else s
        let s := sendPoll b st s
        (.polled, movePast b members a (s.setBranch b { s.branch b with passServed := true }))

/-- The ring-slot count after a used ring slot (R78). -/
def countSlot (b : BranchId) (mark : Bool) (s : State) : State :=
  s.setBranch b { s.branch b with slotCount := (s.branch b).slotCount + 1, relayMark := mark }

/-- A ring slot used for a ring poll (R78). -/
def ringPollSlot (b : BranchId) (s : State) : State :=
  let r := ringPoll 64 b s
  if r.1 = .polled then countSlot b false r.2 else r.2

/-- A ring slot: a relay when one waits and the mark is clear, or the ring is empty; otherwise a ring poll (R78, R81). -/
def ringSlot (b : BranchId) (s : State) : State :=
  let x := s.branch b
  if x.relays ≠ [] ∧ (x.relayMark = false ∨ s.ring b = []) then
    let r := sendRelay b s
    if r.1 then countSlot b true r.2 else ringPollSlot b r.2
  else ringPollSlot b s

/-- An attention slot, and the ring slot it gives way to when it is not used (R77, R78). -/
def attentionSlot (b : BranchId) (s : State) : State :=
  let x := s.branch b
  let pick := attentionPick s x.attention.length x.attention
  let s := s.setBranch b { x with attention := pick.2, slotCount := 0 }
  match pick.1 with
  | some st => sendPoll b st s
  | none => ringSlot b s

/-- R78 and R82: the port chooses a slot when no exchange is in flight and the line is not held idle. -/
def chooseSlot (b : BranchId) (s : State) : State :=
  let x := s.branch b
  if x.activeRate = 0 ∨ x.exchange.isSome ∨ x.idleUntil.isSome then s
  else if s.trunk.mode = .setup then (if x.relays = [] then s else (sendRelay b s).2)
  else if x.slotCount ≥ x.ratio then attentionSlot b s
  else ringSlot b s

def execSlotSelection (b : BranchId) (s : State) : Host.Outcome State Fault Refusal := event (chooseSlot b) s

/-- The idle time after a pass of members passed over ends (R71). -/
def execRingIdleTimeout (b : BranchId) (s : State) : Host.Outcome State Fault Refusal :=
  event (fun s =>
    match (s.branch b).idleUntil with
    | some e =>
      let s := s.advanceTo e
      s.setBranch b { s.branch b with idleUntil := none }
    | none => s) s

/-! ### The ends of an exchange (R65, R66, R69, R70, R74, R80) -/

/-- What the end of an exchange brings beside its judgement: the disabling that waits on it and the rate code that waits (R63,
R68). -/
def closeExchange (b : BranchId) (st : StationId) (s : State) : State :=
  let waits := (s.station st).leaving.any (fun l => decide (l.1 = b))
  applyRate b (if waits then settleDisabling st s else s)

/-- The exchange is no longer in flight. -/
def clearExchange (b : BranchId) (s : State) : State := s.setBranch b { s.branch b with exchange := none }

/-- A miss (R70). -/
def missStation (b : BranchId) (st : StationId) (s : State) : State :=
  let x := s.station st
  let limit := (s.branch b).missLimit
  let n := min 7 (x.miss + 1)
  if x.state = .offline then s.setStation st { x with miss := limit }
  else if n ≥ limit then
    let s := s.setStation st { x with miss := n, skip := 0 }
    enterStationState st .offline (raise (.stationOffline st x.branch x.address x.state) s)
  else s.setStation st { x with miss := n }

/-- A success (R69, R70). -/
def hearStation (st : StationId) (s : State) : State :=
  let x := s.station st
  let s := s.setStation st { x with miss := 0 }
  let s := if x.state = .offline then raise (.stationOnline st x.branch x.address) s else s
  enterStationState st .online s

/-- The STARTED flag of a report (R74 step 1). -/
def takeStarted (st : StationId) (started : Bool) (s : State) : State :=
  let x := s.station st
  if started then
    if x.startNoted then s
    else raise (.stationStarted st) (s.setStation st { x with lastTaken := none, startNoted := true })
  else s.setStation st { x with startNoted := false }

/-- The event byte of a report: whether the event is handed on, and the state (R74). -/
def takeEventByte (st : StationId) (ev : EventByte) (s : State) : Bool × State :=
  let s := takeStarted st ev.started s
  let x := s.station st
  if ev.event then
    match x.lastTaken with
    | none => (true, s.setStation st { x with lastTaken := some ev.number })
    | some l =>
      if ev.number = l then (false, s)
      else
        let skipped := (ev.number - l - 1 : Fin 16).val
        let s := if skipped = 0 then s else raise (.eventGap st l.val skipped) s
        (true, s.setStation st { x with lastTaken := some ev.number })
  else (false, s)

/-- The head entry of the relay-down queue ends with a notice (R80). -/
def endRelay (b : BranchId) (f : RelayEntry → Note) (s : State) : State :=
  match (s.branch b).relays with
  | e :: l => raise (f e) (s.setBranch b { s.branch b with relays := l })
  | [] => s

/-- An exchange ends with a bad reply or with none (R66, R80). -/
def failExchange (b : BranchId) (x : Exchange) (why : RelayFailure) (s : State) : State :=
  let s := clearExchange b s
  let s := if x.discard then s
    else match x.kind with
      | .poll => missStation b x.station s
      | .relay => endRelay b (fun e => .relayTimeout e.station e.code e.tag why) s
  closeExchange b x.station s

/-- The answer timeout runs out with no reply begun (R65). -/
def execAnswerTimeout (b : BranchId) (s : State) : Host.Outcome State Fault Refusal :=
  event (fun s =>
    match (s.branch b).exchange with
    | some x => if x.replyBegun then s else failExchange b x .noReply (s.advanceTo x.timeoutAt)
    | none => s) s

/-- The first character of a reply: the answer timeout no longer ends the exchange (R65). -/
def execReplyBegin (b : BranchId) (s : State) : Host.Outcome State Fault Refusal :=
  event (fun s =>
    match (s.branch b).exchange with
    | some x => s.setBranch b { s.branch b with exchange := some { x with replyBegun := true } }
    | none => s) s

/-- A good report's contents handed to the block of its station's kind, with or without the event; a station that no record
names brings nothing of its own (R75). The pump flag is carried and decides nothing (R145). -/
def handReport (st : StationId) (withEvent : Bool) (r : Report) (s : State) : State :=
  match r with
  | .post outlets taps toggle => takePostReport st outlets taps (if withEvent then toggle else none) s
  | .reader doorOpen e =>
    match s.gateAt st with
    | some g => takeReaderReport g doorOpen (if withEvent then e else none) s
    | none => s
  | .dispenser lifted _ final delivered card =>
    match s.dispenserAt st with
    | some d => takeDispenserReport d lifted final delivered (if withEvent then card else none) s
    | none => s
  | .monitor voltage current breakerOpen =>
    match (s.station st).pontoon with
    | some p => takeMonitorReport p voltage current breakerOpen s
    | none => s

/-- A good report: the station is heard, its event byte is dealt with, and its owner takes it (R69, R74, R75). -/
def takeReport (st : StationId) (ev : EventByte) (r : Report) (s : State) : State :=
  let e := takeEventByte st ev (hearStation st s)
  handReport st e.1 r e.2

/-- The reply of a POLL exchange: a good report, or a miss (R66). -/
def takePollReply (b : BranchId) (x : Exchange) (reply : List Byte) (s : State) : State :=
  match (s.station x.station).goodReport reply with
  | some (ev, r) =>
    let s := clearExchange b s
    closeExchange b x.station (if x.discard then s else takeReport x.station ev r s)
  | none => failExchange b x .badReply s

/-- The reply of a RELAY exchange: a good answer, or RELAY_TIMEOUT (R80). -/
def takeRelayReply (b : BranchId) (x : Exchange) (reply : List Byte) (s : State) : State :=
  match replyParts (s.station x.station).address kindRelayAnswer reply with
  | some (status, payload) =>
    let s := clearExchange b s
    closeExchange b x.station
      (if x.discard then s
       else endRelay b (fun e => .relayAnswer e.station e.code status.toNat e.tag payload) s)
  | none => failExchange b x .badReply s

/-- The reply that ends the exchange in flight on a branch, judged by its bytes; characters that come while no exchange is in
flight are discarded (R65). What the reply is, is decided here, for each of the six rows that a reply may be (log entry
32). -/
def takeReply (b : BranchId) (reply : List Byte) (s : State) : State :=
  match (s.branch b).exchange with
  | none => s
  | some x =>
    match x.kind with
    | .poll => takePollReply b x reply s
    | .relay => takeRelayReply b x reply s

/-- A reply that is neither a good report nor a good answer ends the exchange (R66, R80). -/
def execBadReply (b : BranchId) (reply : List Byte) (s : State) : Host.Outcome State Fault Refusal :=
  event (takeReply b reply) s

/-- The answer of a station to a RELAY (R80). -/
def execRelayAnswer (b : BranchId) (reply : List Byte) (s : State) : Host.Outcome State Fault Refusal :=
  event (takeReply b reply) s

/-- A post's report (R75, R88, R127). -/
def execPostReport (b : BranchId) (reply : List Byte) (s : State) : Host.Outcome State Fault Refusal :=
  event (takeReply b reply) s

/-- A gate reader's report (R75, R160, R164). -/
def execGateReaderReport (b : BranchId) (reply : List Byte) (s : State) : Host.Outcome State Fault Refusal :=
  event (takeReply b reply) s

/-- A dispenser's report (R75, R145). -/
def execDispenserReport (b : BranchId) (reply : List Byte) (s : State) : Host.Outcome State Fault Refusal :=
  event (takeReply b reply) s

/-- A feeder monitor's report (R75, R113). -/
def execFeederMonitorReport (b : BranchId) (reply : List Byte) (s : State) : Host.Outcome State Fault Refusal :=
  event (takeReply b reply) s

/-! ### The Relay Filter and RELAY (R79, R181) -/

/-- The class of a command code (R181). -/
def commandClass (code : Nat) : CommandClass :=
  if code < 0x40 then .query else if code < 0x80 then .config else if code < 0xC0 then .actuate else .service

/-- The filter record of a station kind (R181). -/
def filterIndex : StationKind → Fin 4
  | .gateReader => 1
  | .dispenser => 2
  | .feederMonitor => 3
  | _ => 0

/-- The mode of a class in a filter record. -/
def FilterRecord.mode (f : FilterRecord) : CommandClass → FilterMode
  | .query => f.query
  | .config => f.config
  | .actuate => f.actuate
  | .service => f.service

/-- The mode that applies to a relay: every relay is passed in SETUP mode (R181). -/
def State.filterMode (s : State) (st : StationId) (code : Nat) : FilterMode :=
  if s.trunk.mode = .setup then .pass
  else (s.link.filter[filterIndex (s.station st).kind]).mode (commandClass code)

/-- The enabled station record with a branch and address (R79). -/
def State.stationAt (s : State) (b : BranchId) (a : Nat) : Option StationId :=
  ((entries s.link.stations).find? (fun e => decide (e.2.branch = b) && decide (e.2.address = a) && e.2.enabled)).map (·.1)

/-- Steps 3 and 4 of R79 for a resolved station. -/
def relayTo (b : BranchId) (st : StationId) (code tag : Nat) (payload : List Byte) : Owner := fun s =>
  let cls := commandClass code
  match s.filterMode st code with
  | .block => refuse .blocked s
  | .blockNote => refuse .blocked (raise (.relayBlocked st code tag cls) s)
  | mode =>
    let x := s.branch b
    if x.relays.length ≥ Config.relayPlaces then (s, .busy)
    else
      let s := s.setBranch b { x with relays := x.relays ++ [{ station := st, code := code, payload := payload, tag := tag }] }
      (if mode = .passNote then raise (.relayNoted st code tag cls) s else s, .queued)

/-- RELAY (R79). -/
def relayOwner (branch address code tag : Nat) (payload : List Byte) : Owner := fun s =>
  match idOf 6 branch, within 1 31 address, upTo Config.branchPayloadMax payload.length with
  | some b, some a, some _ =>
    match s.stationAt b a with
    | none => refuse .offline s
    | some st =>
      if (s.station st).state = .offline ∨ (s.station st).state = .unpolled then refuse .offline s
      else relayTo b st code tag payload s
  | _, _, _ => refuse .badValue s

/-- A RELAY request's bytes: branch, address, command code and the payload for the station (R195). -/
def relayRequest (h : ReqHeader) (p : List Byte) : Owner :=
  relayOwner (rd p 0 1) (rd p 1 1) (rd p 2 1) h.tag (p.drop 3)

def execRelay (h : ReqHeader) (p : List Byte) (s : State) : Host.Outcome State Fault Refusal :=
  request h 0x06 p (relayRequest h p) s

/-- WRITE RECORD to the filter table (R181). -/
def writeFilter (index : Nat) (w : FilterWrite) : Owner := fun s =>
  match idOf 4 index, checkFilter w with
  | some k, some v => done { s with link := { s.link with filter := s.link.filter.set k v } }
  | _, _ => refuse .badValue s

def execWriteFilterRecord (h : ReqHeader) (p : List Byte) (s : State) : Host.Outcome State Fault Refusal :=
  request h 0x05 (10 :: p) (recordWrite 4 (fun i r => writeFilter i (rdFilter r)) p) s

end Sys2Proof.Machine
end

