-- ==== Sys2Proof/Machine/Clock.lean ====
section
/-! DEFINITION. The Marina Clock, the signal records, the sampling of FIRE and ESTOP, and what the part does by itself while no
command waits (chapter 11). -/

namespace Sys2Proof.Machine

/-! ### Clock events (R185) -/

/-- A stay at a clock event with value `t`: the lapse of R16, the lead submission of R28 for the allocation lead in force, and the
overstay of R19 are met. -/
def Stay.atClock (x : Stay) (t lead : Nat) : Stay :=
  match x.state with
  | .expected =>
    { x with lapseMet := x.lapseMet || decide (x.settings.arrival + x.settings.holdGrace * 3600 ≤ t)
             leadMet := if x.leadReached t lead then some (min lead (x.leadMet.getD lead)) else x.leadMet }
  | .arrived => if x.overstayNoted = false ∧ x.settings.departure ≤ t then { x with overstayMet := true } else x
  | _ => x

/-- An office hold at a clock event (R51). -/
def HoldRecord.atClock (x : HoldRecord) (t : Nat) : HoldRecord :=
  match x.expiry with
  | some e => if e ≤ t then { x with expiryMet := true } else x
  | none => x

/-- A credential at a clock event (R157). -/
def Credential.atClock (x : Credential) (t : Nat) : Credential :=
  match x.exitExpiry with
  | some e => if x.state = .exitOnly ∧ e ≤ t then { x with expiryMet := true } else x
  | none => x

/-- A clock event: each deadline that the clock value reaches or passes is met (R185; log entry 8). -/
def clockEvent (s : State) : State :=
  let t := s.clock.value
  { s with
    register := { s.register with stays := s.register.stays.map (fun x => x.atClock t s.settings.lead) }
    ledger := { s.ledger with holds := s.ledger.holds.map (fun h => h.map (fun x => x.atClock t)) }
    access := { s.access with credentials := s.access.credentials.map (fun c => c.map (fun x => x.atClock t)) } }

/-- One second of a set clock (R185). -/
def advanceClock (s : State) : State :=
  if s.clock.isSet then
    let s := s.advanceTo s.clock.nextAdvance
    let c := { s.clock with nextAdvance := s.clock.nextAdvance + Config.secondMs }
    if c.value < Config.clockMax then clockEvent { s with clock := { c with value := c.value + 1 } }
    else { s with clock := c }
  else s

def execClockAdvance (s : State) : Host.Outcome State Fault Refusal := event advanceClock s

/-- SET CLOCK (R59, R186). The set flag before is sent as a byte, 1 for set: the model's choice (log entry 46). -/
def setClockOwner (value rollover : Nat) : Owner := fun s =>
  match clockValueOf value, timeOfDayOf rollover with
  | some v, some r =>
    let before := le 4 s.clock.value ++ yn s.clock.isSet
    let s := { s with clock := { s.clock with value := v, isSet := true, rollover := r,
                                              nextAdvance := s.after Config.secondMs } }
    let s := if s.ledger.rolloverDay = none then { s with ledger := { s.ledger with rolloverDay := s.currentDay } } else s
    (clockEvent s, .done before)
  | _, _ => refuse .badValue s

def execSetClock (h : ReqHeader) (p : List Byte) (s : State) : Host.Outcome State Fault Refusal :=
  request h 0x60 p (setClockOwner (rd p 0 4) (rd p 4 4)) s

/-! ### Signal records (R188) -/

/-- WRITE RECORD to the signal table (R188); the line follows its new demand at the end of the event. -/
def writeSignal (index : Nat) (w : SignalWrite) : Owner := fun s =>
  match idOf 2 index, checkSignal w with
  | some i, some v =>
    done (s.setSignal i { s.signal i with mask := v.mask, enable := v.enable, polarity := v.polarity, stretch := v.stretch })
  | _, _ => refuse .badValue s

def execWriteSignalRecord (h : ReqHeader) (p : List Byte) (s : State) : Host.Outcome State Fault Refusal :=
  request h 0x05 (20 :: p) (recordWrite 5 (fun i r => writeSignal i (rdSignal r)) p) s

/-- The stretch timer of a line runs out (R188). -/
def stretchEnds (i : Fin 2) (s : State) : State :=
  match (s.signal i).timer with
  | some e =>
    let s := s.advanceTo e
    let x := s.signal i
    s.setSignal i { x with timer := none, asserted := x.demand s.sources }
  | none => s

def execStretchTimerExpiry (i : Fin 2) (s : State) : Host.Outcome State Fault Refusal := event (stretchEnds i) s

/-! ### The part left to itself (log entry 5) -/

/-- The level a sample of a pin shows. -/
def Input.level (x : Input) : TakenLevel := if x.pinLow then .asserted else .released

/-- Whether this sample and the last one both show a level that differs from the taken one (R189). -/
def Input.changes (x : Input) : Bool := decide (x.lastSample = some x.pinLow) && decide (x.taken ≠ x.level)

def Input.sampled (x : Input) : Input := { x with lastSample := some x.pinLow }

/-- What an input hands its block at a sample (R189). -/
def sampleEvents (s : State) : List Instr :=
  (if s.lines.fire.changes then [if s.lines.fire.pinLow then .fireAsserted else .fireReleased] else []) ++
  (if s.lines.estop.changes then [if s.lines.estop.pinLow then .estopAsserted else .estopReleased] else [])

/-- A timer has run out. -/
def ranOut (now : Nat) : Option Nat → Bool
  | some e => decide (e ≤ now)
  | none => false

/-- One command for each record whose timer has run out. -/
def expired {α : Type} {n : Nat} (now : Nat) (t : Vector α n) (timer : α → Option Nat) (c : Fin n → Instr) : List Instr :=
  (entries t).filterMap (fun e => if ranOut now (timer e.2) then some (c e.1) else none)

/-- The timers that have run out, as the commands that take their expiries. -/
def timersDue (s : State) : List Instr :=
  let now := s.now
  (entries s.register.berths).flatMap (fun e =>
    (e.2.outstanding.filter (fun r => decide (r.endAt ≤ now))).map (fun r => .finalReadTimeout e.1 r.item)) ++
  expired now s.power.outlets (·.startTimer) .startTimerExpiry ++
  expired now s.power.outlets (·.graceTimer) .graceTimerExpiry ++
  expired now s.power.feeders (·.stepTimer) .programStepTimer ++
  expired now s.water.taps (·.runTimer) .runTimerExpiry ++
  expired now s.fuel.dispensers (·.nozzleTimer) .nozzleTimeout ++
  expired now s.fuel.dispensers (·.settleTimer) .offlineSettleTimeout ++
  expired now s.access.gates (·.unlockEnd) .unlockTimerExpiry ++
  expired now s.access.gates (·.heldTimer) .doorHeldTimeout ++
  expired now s.link.branches (fun b => b.exchange.bind (fun x => if x.replyBegun then none else some x.timeoutAt))
    .answerTimeout ++
  expired now s.link.branches (·.idleUntil) .ringIdleTimeout ++
  expired now s.lines.signals (·.timer) .stretchTimerExpiry ++
  (if s.clock.isSet && decide (s.clock.nextAdvance ≤ now) then [.clockAdvance] else [])

/-- The deadlines that a clock event has met and that wait to be taken (R185): lapses, overstays, hold expiries, credential
expiries. -/
def deadlinesDue (s : State) : List Instr :=
  (entries s.register.stays).filterMap (fun e => if e.2.lapseMet then some (.stayLapse e.1) else none) ++
  (entries s.register.stays).filterMap (fun e => if e.2.overstayMet then some (.overstay e.1) else none) ++
  (entries s.ledger.holds).filterMap (fun e => if e.2.any (·.expiryMet) then some (.holdExpiry e.1) else none) ++
  (entries s.access.credentials).filterMap (fun e => if e.2.any (·.expiryMet) then some (.exitOnlyExpiry e.1) else none)

/-- Whether a port has something to send (R78). -/
def State.portReady (s : State) (b : BranchId) : Bool :=
  let x := s.branch b
  decide (x.activeRate ≠ 0) && x.exchange.isNone && x.idleUntil.isNone &&
  (!x.relays.isEmpty || (decide (s.trunk.mode = .run) && (!x.attention.isEmpty || !(s.ring b).isEmpty)))

/-- The work the part does by itself in a millisecond: submissions, steps of the scan and of the pass, the ports' slots, and a
start that has fallen due. -/
def workDue (s : State) : List Instr :=
  (if s.engine.queue.length < Config.allocationPlaces ∧ s.engine.resubmit > 0 then [.resubmission] else []) ++
  (if s.leadWork then [.leadSubmission] else []) ++
  (match s.engine.scan with
   | some x => if x.walked then [.attemptComplete]
     else List.replicate (min Config.scanStepsPerMs (240 - x.position.val)) .scanStep
   | none => []) ++
  (match s.ledger.pass with
   | some x => if x.walked then [.rolloverDone]
     else List.replicate (min Config.passStepsPerMs (256 - x.position.val)) .nightlyPassStep
   | none => if s.passDue.isSome then [.nightlyPassStart] else []) ++
  ((List.finRange 6).filter s.portReady).map .slotSelection ++
  (match s.trunk.commandStart with
   | .restartDue => [.commandRestart 0 s.part.setupStrapLow]
   | .clearDue => [.clearCommandFullClear]
   | _ => [])

/-- Both inputs are sampled every 10 ms (R189). -/
def sampleInputs (s : State) : State :=
  if s.now % Config.samplePeriodMs = 0 then
    { s with pending := s.pending ++ sampleEvents s
             lines := { s.lines with fire := s.lines.fire.sampled, estop := s.lines.estop.sampled } }
  else s

/-- What a running part does in one millisecond in which no command waits: the time base rises, the inputs are sampled, and
what has become due joins the queue (log entry 5). -/
def tick (s : State) : State :=
  if s.part.condition = .running then
    let s := sampleInputs { s with part := { s.part with timeBase := s.part.timeBase + 1 } }
    { s with pending := s.pending ++ (timersDue s ++ deadlinesDue s ++ workDue s) }
  else s

end Sys2Proof.Machine
end

