-- ==== Sys2Proof/Machine/Outlets.lean ====
section
/-! DEFINITION. The commands and timers of the Shore Power Unit (chapters 5 and 6): outlet and start records, the start and
grace timers, RESET, LOCK and UNLOCK OUTLET, pontoon and program records, SHED and RESTORE FEEDER, and the step timer. -/

namespace Sys2Proof.Machine

/-! ### Outlet and start records (R85, R86) -/

/-- The states in which an outlet record may be rewritten (R85). -/
def OutletState.writable : OutletState → Bool
  | .vacant => true
  | .plugged => true
  | .shed => true
  | .tripped => true
  | .locked => true
  | _ => false

/-- Another outlet record names the post and socket (R85). -/
def State.socketTaken (s : State) (o : OutletId) (w : OutletSettings) : Bool :=
  w.post.isSome &&
  (entries s.power.outlets).any (fun e =>
    decide (e.1 ≠ o) && decide (e.2.post = w.post) && decide (e.2.socket = w.socket))

/-- An accepted outlet write (R85). Only the post that the outlet comes to shows it, and only a change of state or reason writes
that post's display code; the post it leaves keeps its image: the model's choice (log entry 39). -/
def applyOutletWrite (o : OutletId) (w : OutletSettings) (s : State) : State :=
  let x := s.outlet o
  if x.post = w.post ∧ x.socket = w.socket then s.setOutlet o { x with rating := w.rating }
  else
    let idle := decide (x.state = .plugged) || decide (x.state = .shed)
    putOutlet o { x with post := w.post, socket := w.socket, rating := w.rating, plugTaken := false, deglitch := 0,
                         baseline := none, state := if idle then .vacant else x.state,
                         reason := if idle then none else x.reason } s

/-- WRITE RECORD to the outlet table (R85). -/
def writeOutlet (index : Nat) (w : OutletWrite) : Owner := fun s =>
  match idOf 192 index with
  | none => refuse .badValue s
  | some o =>
    if ¬ (s.outlet o).state.writable then refuse .state s
    else
      match checkOutlet w with
      | none => refuse .badValue s
      | some v => if s.socketTaken o v then refuse .duplicate s else done (applyOutletWrite o v s)

def execWriteOutletRecord (h : ReqHeader) (p : List Byte) (s : State) : Host.Outcome State Fault Refusal :=
  request h 0x05 (11 :: p) (recordWrite 5 (fun i r => writeOutlet i (rdOutlet r)) p) s

/-- WRITE RECORD to the start table (R86). -/
def writeStart (index : Nat) (w : StartWrite) : Owner := fun s =>
  match idOf 12 index, checkStart w with
  | some p, some v => done (s.setStart p { s.start p with startTime := v.1, startFactor := v.2 })
  | _, _ => refuse .badValue s

def execWriteStartRecord (h : ReqHeader) (p : List Byte) (s : State) : Host.Outcome State Fault Refusal :=
  request h 0x05 (12 :: p) (recordWrite 4 (fun i r => writeStart i (rdStart r)) p) s

/-! ### Outlet timers (R95, R101) -/

/-- R95: the start window of an outlet ends. -/
def endStartWindow (o : OutletId) (s0 : State) : State :=
  let s := leaveStarts o s0
  let s := putOutlet o { s.outlet o with state := .on, startTimer := none, overLimit := 0 } s
  let stopped := match (s.outlet o).billing with | some a => s.inCreditStop a | none => false
  let s := refreshNamed (s.outlet o).post (if stopped then enterGrace o s else s)
  let x := s.outlet o
  let s := match x.grantPontoon with
    | some p =>
      if x.limited && (decide (x.state = .on) || decide (x.state = .grace)) then
        s.setStart p { s.start p with upgrades := (s.start p).upgrades ++ [o] }
      else s
    | none => s
  reconsider s0 s

def execStartTimerExpiry (o : OutletId) (s : State) : Host.Outcome State Fault Refusal :=
  event (fun s =>
    match (s.outlet o).startTimer with
    | some e => endStartWindow o (s.advanceTo e)
    | none => s) s

/-- R101: the grace time of an outlet runs out. -/
def execGraceTimerExpiry (o : OutletId) (s : State) : Host.Outcome State Fault Refusal :=
  event (fun s =>
    match (s.outlet o).graceTimer with
    | some e =>
      let s := s.advanceTo e
      reconsider s (enterClosing o .plugged (some .credit) s)
    | none => s) s

/-! ### Outlet commands (R98, R99) -/

/-- An outlet is cleared with its plug present: it becomes PLUGGED, and the permits of its berth are evaluated (R91, R98, R99). -/
def replug (o : OutletId) (s : State) : State :=
  reconsider s (returnPlugged o (s.setOutlet o { s.outlet o with lastClear := some s.now }))

/-- A LOCKED outlet is unlocked without a plug: it becomes VACANT, and the PLUGGED, SHED and QUEUED outlets of its berth are
evaluated (R91, R99). It shows its new state before they do: the model's choice (log entry 53). -/
def unlockVacant (o : OutletId) (s : State) : State :=
  reconsider s (forEach reevaluate (s.berthMates o)
    (putOutlet o { s.outlet o with state := .vacant, lastClear := some s.now } s))

/-- RESET OUTLET (R98). -/
def resetOutletOwner (outlet : Nat) : Owner := fun s =>
  match idOf 192 outlet with
  | none => refuse .badValue s
  | some o => if (s.outlet o).state = .tripped then done (replug o s) else refuse .state s

def execResetOutlet (h : ReqHeader) (p : List Byte) (s : State) : Host.Outcome State Fault Refusal :=
  request h 0x30 p (resetOutletOwner (rd p 0 2)) s

/-- LOCK OUTLET by state (R99). -/
def lockAnOutlet (o : OutletId) (s : State) : State :=
  let x := s.outlet o
  if x.state = .closing then s.setOutlet o { x with target := some .locked }
  else if x.state.energised then reconsider s (enterClosing o .locked none s)
  else reconsider s (putOutlet o { x with state := .locked, reason := none } (leaveStarts o s))

/-- LOCK OUTLET (R99). -/
def lockOutletOwner (outlet : Nat) : Owner := fun s =>
  match idOf 192 outlet with
  | none => refuse .badValue s
  | some o => if (s.outlet o).state = .locked then refuse .state s else done (lockAnOutlet o s)

def execLockOutlet (h : ReqHeader) (p : List Byte) (s : State) : Host.Outcome State Fault Refusal :=
  request h 0x31 p (lockOutletOwner (rd p 0 2)) s

/-- UNLOCK OUTLET (R99). -/
def unlockOutletOwner (outlet : Nat) : Owner := fun s =>
  match idOf 192 outlet with
  | none => refuse .badValue s
  | some o =>
    if (s.outlet o).state ≠ .locked then refuse .state s
    else done (if (s.outlet o).plugTaken then replug o s else unlockVacant o s)

def execUnlockOutlet (h : ReqHeader) (p : List Byte) (s : State) : Host.Outcome State Fault Refusal :=
  request h 0x32 p (unlockOutletOwner (rd p 0 2)) s

/-! ### Feeder commands and programs (R117 to R120) -/

/-- SHED FEEDER (R117). -/
def shedFeederOwner (pontoon : Nat) : Owner := fun s =>
  match idOf 12 pontoon with
  | none => refuse .badValue s
  | some p =>
    let f := s.feeder p
    match f.state with
    | .normal => done (startProgram false p .office (some .office) s)
    | .restoring => done (startProgram false p .office (some .office) s)
    | .dead => refuse .state s
    | _ =>
      if f.shedCause = some .office then refuse .state s else done (s.setFeeder p { f with shedCause := some .office })

def execShedFeeder (h : ReqHeader) (p : List Byte) (s : State) : Host.Outcome State Fault Refusal :=
  request h 0x38 p (shedFeederOwner (rd p 0 2)) s

/-- RESTORE FEEDER (R118). -/
def restoreFeederOwner (pontoon : Nat) : Owner := fun s =>
  match idOf 12 pontoon with
  | none => refuse .badValue s
  | some p =>
    match (s.feeder p).state with
    | .shedding => done (startProgram true p .office none s)
    | .shed => done (startProgram true p .office none s)
    | .dead => if s.monitored p then refuse .state s else done (startProgram true p .office none s)
    | _ => refuse .state s

def execRestoreFeeder (h : ReqHeader) (p : List Byte) (s : State) : Host.Outcome State Fault Refusal :=
  request h 0x39 p (restoreFeederOwner (rd p 0 2)) s

/-- Whether any pontoon runs the program (R119). -/
def State.programRuns (s : State) (restore : Bool) : Bool :=
  s.power.feeders.toList.any (fun f => decide (f.state = if restore then .restoring else .shedding))

/-- WRITE RECORD to the program table (R119). -/
def writeProgram (index : Nat) (w : Vector StepWrite 8) : Owner := fun s =>
  match idOf 2 index, stepsChecked w with
  | some k, some v =>
    if s.programRuns (decide (k = 1)) then (s, .busy)
    else done { s with power := { s.power with programs := s.power.programs.set k v } }
  | _, _ => refuse .badValue s

def execWriteProgramRecord (h : ReqHeader) (p : List Byte) (s : State) : Host.Outcome State Fault Refusal :=
  request h 0x05 (13 :: p) (recordWrite 24 (fun i r => writeProgram i (rdProgram r)) p) s

/-- The delay of a program step runs out (R120). -/
def execProgramStepTimer (p : PontoonId) (s : State) : Host.Outcome State Fault Refusal :=
  event (stepTimerExpires p) s

end Sys2Proof.Machine
end

