-- ==== Sys2Proof/Machine/Stays.lean ====
section
/-! DEFINITION. The commands and events of the Berth Register (chapter 1): records of berths and stays, holding, arrival,
departure, moves, lapse, overstay and the final-read timeout. -/

namespace Sys2Proof.Machine

/-! ### Berth records (R4, R5) -/

/-- The berth field of outlets and of the tap follows a berth write (R4). -/
def setOutletBerth (b : Option BerthId) (o : OutletId) (s : State) : State :=
  s.setOutlet o { s.outlet o with berth := b }

def setTapBerth (b : Option BerthId) (t : TapId) (s : State) : State := s.setTap t { s.tap t with berth := b }

/-- Whether a listed outlet or the tap belongs to a different berth (R4). -/
def State.claimedElsewhere (s : State) (b : BerthId) (w : BerthSettings) : Bool :=
  let elsewhere (c : Option BerthId) : Bool := match c with | some c => decide (c ≠ b) | none => false
  w.outlets.any (fun o => elsewhere (s.outlet o).berth) || w.tap.toList.any (fun t => elsewhere (s.tap t).berth)

/-- An accepted berth write: the berth field follows, and the outlets that gain or lose the berth are evaluated again, not those
that it keeps (R4, R91). -/
def applyBerthWrite (b : BerthId) (w : BerthSettings) (s0 : State) : State :=
  let x := s0.berth b
  let lost := x.outlets.filter (fun o => !w.outlets.contains o)
  let gained := w.outlets.filter (fun o => !x.outlets.contains o)
  let s := s0.setBerth b { x with pontoon := w.pontoon, maxLoa := w.maxLoa, maxBeam := w.maxBeam, depth := w.depth,
                                  outlets := w.outlets, tap := w.tap }
  let s := forEach (setOutletBerth none) lost s
  let s := forEach (setTapBerth none) (x.tap.toList.filter (fun t => decide (w.tap ≠ some t))) s
  let s := forEach (setTapBerth (some b)) w.tap.toList (forEach (setOutletBerth (some b)) w.outlets s)
  reconsider s0 (forEach reevaluate (ascending (lost ++ gained)) s)

/-- WRITE RECORD to the berth table (R4). -/
def writeBerth (index : Nat) (w : BerthWrite) : Owner := fun s =>
  match idOf 240 index with
  | none => refuse .badValue s
  | some b =>
    if (s.berth b).state ≠ .free ∧ (s.berth b).state ≠ .closed then refuse .state s
    else
      match checkBerth w with
      | none => refuse .badValue s
      | some v => if s.claimedElsewhere b v then refuse .inUse s else done (applyBerthWrite b v s)

def execWriteBerthRecord (h : ReqHeader) (p : List Byte) (s : State) : Host.Outcome State Fault Refusal :=
  request h 0x05 (2 :: p) (recordWrite 14 (fun i r => writeBerth i (rdBerth r)) p) s

/-- OPEN BERTH (R5). -/
def openBerthOwner (berth : Nat) : Owner := fun s =>
  match idOf 240 berth with
  | none => refuse .badValue s
  | some b =>
    if (s.berth b).state = .closed then done (countFreed (s.setBerth b { s.berth b with state := .free }))
    else refuse .state s

def execOpenBerth (h : ReqHeader) (p : List Byte) (s : State) : Host.Outcome State Fault Refusal :=
  request h 0x18 p (openBerthOwner (rd p 0 2)) s

/-- CLOSE BERTH (R5). -/
def closeBerthOwner (berth : Nat) : Owner := fun s =>
  match idOf 240 berth with
  | none => refuse .badValue s
  | some b =>
    if (s.berth b).state = .free then done (s.setBerth b { s.berth b with state := .closed }) else refuse .state s

def execCloseBerth (h : ReqHeader) (p : List Byte) (s : State) : Host.Outcome State Fault Refusal :=
  request h 0x19 p (closeBerthOwner (rd p 0 2)) s

/-! ### Stay records (R9 to R11) -/

/-- The lowest-numbered EMPTY stay slot (R9). -/
def State.emptySlot (s : State) : Option StayId :=
  ((entries s.register.stays).find? (fun e => decide (e.2.state = .empty))).map (·.1)

/-- CREATE STAY (R9). -/
def createStayOwner (w : StayWrite) : Owner := fun s =>
  match checkStay w with
  | none => refuse .badValue s
  | some v =>
    if (s.account v.account).state = .closed then refuse .state s
    else
      match s.emptySlot with
      | none => refuse .full s
      | some y =>
        let s := s.setStay y { Stay.emptied with settings := v, state := .expected, allowanceLeft := v.allowance }
        (joinArrivals y s, .done (le 2 y.val))

def execCreateStay (h : ReqHeader) (p : List Byte) (s : State) : Host.Outcome State Fault Refusal :=
  request h 0x10 p (createStayOwner (rdStay p)) s

/-- The conditions of R12 that a stay write tests against the stay's berth (R10). -/
def writeConditions (s : State) (y : StayId) (v : StaySettings) : Option Nat :=
  match (s.stay y).berth with
  | some b => firstFailing ((eligibility s v.fit b (s.ownClassOn y b)).filter (fun c => decide (c.1 ≠ 1 ∧ c.1 ≠ 5)))
  | none => none

/-- An accepted stay write (R10, R28, R91). A new arrival time has new deadlines, which no clock event has met (R185). -/
def applyStayWrite (y : StayId) (v : StaySettings) (s : State) : State :=
  let x := s.stay y
  let moved := decide (x.settings.arrival ≠ v.arrival)
  let deadline := moved || decide (x.settings.holdGrace ≠ v.holdGrace)
  let s := s.setStay y { x with settings := v, lapseMet := x.lapseMet && !deadline,
                                leadMet := if moved then none else x.leadMet }
  let s := if moved && s.arrivals.contains y then joinArrivals y s else s
  let s := departureRewritten y s
  match x.state, x.berth with
  | .arrived, some b => reevaluateBerth b s
  | _, _ => s

/-- WRITE RECORD to the stay table (R10). -/
def writeStay (index : Nat) (w : StayWrite) : Owner := fun s =>
  match idOf 256 index with
  | none => refuse .badValue s
  | some y =>
    if (s.stay y).state ≠ .expected ∧ (s.stay y).state ≠ .arrived then refuse .state s
    else
      match checkStay w with
      | none => refuse .badValue s
      | some v =>
        if (s.account v.account).state = .closed then refuse .state s
        else
          match writeConditions s y v with
          | some n => (s, .refused (conditionReason n) n)
          | none => done (applyStayWrite y v s)

def execWriteStayRecord (h : ReqHeader) (p : List Byte) (s : State) : Host.Outcome State Fault Refusal :=
  request h 0x05 (3 :: p) (recordWrite 27 (fun i r => writeStay i (rdStay r)) p) s

/-- EXTEND (R11). -/
def extendOwner (stay departure : Nat) : Owner := fun s =>
  match idOf 256 stay, clockValueOf departure with
  | some y, some d =>
    let x := s.stay y
    if x.state ≠ .expected ∧ x.state ≠ .arrived then refuse .state s
    else if d ≤ x.settings.arrival then refuse .badValue s
    else done (departureRewritten y (s.setStay y { x with settings := { x.settings with departure := d } }))
  | _, _ => refuse .badValue s

def execExtend (h : ReqHeader) (p : List Byte) (s : State) : Host.Outcome State Fault Refusal :=
  request h 0x15 p (extendOwner (rd p 0 2) (rd p 2 4)) s

/-! ### Holding a berth (R13 to R16) -/

/-- ASSIGN (R13). -/
def assignOwner (stay berth : Nat) : Owner := fun s =>
  match idOf 256 stay, idOf 240 berth with
  | some y, some b =>
    let x := s.stay y
    if x.state ≠ .expected ∨ x.berth.isSome then refuse .state s
    else
      match firstFailing (eligibility s x.settings.fit b 0) with
      | some n => (s, .refused (conditionReason n) n)
      | none => done (contend y .assigned (holdBerth y b s))
  | _, _ => refuse .badValue s

def execAssign (h : ReqHeader) (p : List Byte) (s : State) : Host.Outcome State Fault Refusal :=
  request h 0x11 p (assignOwner (rd p 0 2) (rd p 2 2)) s

/-- UNASSIGN (R14). -/
def unassignOwner (stay : Nat) : Owner := fun s =>
  match idOf 256 stay with
  | none => refuse .badValue s
  | some y =>
    let x := s.stay y
    if x.state ≠ .expected then refuse .state s
    else
      match x.berth with
      | none => refuse .noBerth s
      | some b => done (giveUpBerth b (joinArrivals y (s.setStay y { x with berth := none })))

def execUnassign (h : ReqHeader) (p : List Byte) (s : State) : Host.Outcome State Fault Refusal :=
  request h 0x12 p (unassignOwner (rd p 0 2)) s

/-- The end of an EXPECTED stay by CANCEL STAY or lapse: a held berth is given up or the list place left, the stay becomes
EMPTY, and its guest credentials become EXIT_ONLY (R15, R16, R35). -/
def endExpected (y : StayId) (cause : ContendedCause) (s : State) : State :=
  let s := match (s.stay y).berth with
    | some b => giveUpBerth b (s.setStay y Stay.emptied)
    | none => contend y cause (leaveArrivals y (s.setStay y Stay.emptied))
  endGuests y s

/-- CANCEL STAY (R15). -/
def cancelStayOwner (stay : Nat) : Owner := fun s =>
  match idOf 256 stay with
  | none => refuse .badValue s
  | some y => if (s.stay y).state = .expected then done (endExpected y .cancelled s) else refuse .state s

def execCancelStay (h : ReqHeader) (p : List Byte) (s : State) : Host.Outcome State Fault Refusal :=
  request h 0x13 p (cancelStayOwner (rd p 0 2)) s

/-- The lapse of a stay whose deadline a clock event has met (R16, R185; log entry 8). -/
def execStayLapse (y : StayId) (s : State) : Host.Outcome State Fault Refusal :=
  event (fun s =>
    let x := s.stay y
    if x.state = .expected ∧ x.lapseMet then
      raise (.stayLapsed y x.berth x.settings.arrival) (endExpected y .lapsed s)
    else s) s

/-! ### Arrival and overstay (R17, R19) -/

/-- ARRIVE (R17). -/
def arriveOwner (stay : Nat) : Owner := fun s =>
  match idOf 256 stay with
  | none => refuse .badValue s
  | some y =>
    let x := s.stay y
    if x.state ≠ .expected then refuse .state s
    else
      match x.berth with
      | none => refuse .noBerth s
      | some b => done (arriveAt y b .office s)

def execArrive (h : ReqHeader) (p : List Byte) (s : State) : Host.Outcome State Fault Refusal :=
  request h 0x14 p (arriveOwner (rd p 0 2)) s

/-- The overstay of a stay whose departure time a clock event has met (R19, R185; log entry 8). -/
def execOverstay (y : StayId) (s : State) : Host.Outcome State Fault Refusal :=
  event (fun s =>
    let x := s.stay y
    if x.state = .arrived ∧ x.overstayMet ∧ ¬ x.overstayNoted then noteOverstay y s else s) s

/-! ### Departure and moves (R20, R22, R24) -/

/-- R20: the stay departs from berth `b`. -/
def departFrom (y : StayId) (b : BerthId) (s : State) : State :=
  let s := s.setStay y { s.stay y with state := .departing, overstayMet := false }
  endClearing b (endGuests y (beginClearing b (some y) s))

/-- DEPART (R20). -/
def departOwner (stay : Nat) : Owner := fun s =>
  match idOf 256 stay with
  | none => refuse .badValue s
  | some y =>
    match (s.stay y).state, (s.stay y).berth with
    | .arrived, some b => done (departFrom y b s)
    | _, _ => refuse .state s

def execDepart (h : ReqHeader) (p : List Byte) (s : State) : Host.Outcome State Fault Refusal :=
  request h 0x16 p (departOwner (rd p 0 2)) s

/-- R24: the stay moves from berth `b` to berth `c`. Where the old berth has nothing outstanding, its clearing ends (R23) before
step 5 evaluates the new berth's outlets and tap: the model's choice (log entry 55). -/
def moveTo (y : StayId) (b c : BerthId) (s : State) : State :=
  let s := s.setBerth c { s.berth c with state := .occupied, currentStay := some y }
  let s := s.setStay y { s.stay y with berth := some c }
  let s := endClearing b (beginClearing b none s)
  welcomeTap c (reevaluateBerth c s)

/-- MOVE (R24). -/
def moveOwner (stay berth : Nat) : Owner := fun s =>
  match idOf 256 stay, idOf 240 berth with
  | some y, some c =>
    match (s.stay y).state, (s.stay y).berth with
    | .arrived, some b =>
      match firstFailing (eligibility s (s.stay y).settings.fit c (s.ownClassOn y c)) with
      | some n => (s, .refused (conditionReason n) n)
      | none => done (moveTo y b c s)
    | _, _ => refuse .state s
  | _, _ => refuse .badValue s

def execMove (h : ReqHeader) (p : List Byte) (s : State) : Host.Outcome State Fault Refusal :=
  request h 0x17 p (moveOwner (rd p 0 2) (rd p 2 2)) s

/-- The final-read timeout of an item of a berth's outstanding set (R22). -/
def execFinalReadTimeout (b : BerthId) (item : ReadItem) (s : State) : Host.Outcome State Fault Refusal :=
  event (fun s =>
    match (s.berth b).outstanding.find? (fun r => decide (r.item = item)) with
    | some r =>
      let s := s.advanceTo r.endAt
      let s := settleItem item (s.setBerth b { s.berth b with estimated := (s.berth b).estimated + 1 })
      dropOutstanding b item (raise (.finalReadEstimated b item) s)
    | none => s) s

end Sys2Proof.Machine
end

