-- ==== Sys2Proof/Machine/Taps.lean ====
section
/-! DEFINITION. The commands and the timer of the Water Service (chapter 7). -/

namespace Sys2Proof.Machine

/-- Another tap record names the post and tap index (R125). -/
def State.tapIndexTaken (s : State) (t : TapId) (w : TapSettings) : Bool :=
  w.post.isSome &&
  (entries s.water.taps).any (fun e =>
    decide (e.1 ≠ t) && decide (e.2.post = w.post) && decide (e.2.tapIndex = w.tapIndex))

/-- An accepted tap write (R125). -/
def applyTapWrite (t : TapId) (w : TapSettings) (s : State) : State :=
  let x := s.tap t
  let x' := { x with post := w.post, tapIndex := w.tapIndex, maxRun := w.maxRun }
  if x.post = w.post ∧ x.tapIndex = w.tapIndex then s.setTap t x'
  else s.setTap t { x' with baseline := none, leakCount := 0, estimated := false }

/-- WRITE RECORD to the tap table (R125). -/
def writeTap (index : Nat) (w : TapWrite) : Owner := fun s =>
  match idOf 128 index with
  | none => refuse .badValue s
  | some t =>
    if (s.tap t).state = .open ∨ (s.tap t).finalOwed then refuse .state s
    else
      match checkTap w with
      | none => refuse .badValue s
      | some v => if s.tapIndexTaken t v then refuse .duplicate s else done (applyTapWrite t v s)

def execWriteTapRecord (h : ReqHeader) (p : List Byte) (s : State) : Host.Outcome State Fault Refusal :=
  request h 0x05 (14 :: p) (recordWrite 5 (fun i r => writeTap i (rdTap r)) p) s

/-- The run timer of a tap runs out (R130). -/
def execRunTimerExpiry (t : TapId) (s : State) : Host.Outcome State Fault Refusal :=
  event (fun s =>
    match (s.tap t).runTimer with
    | some e => closeTap t .closed 2 (s.advanceTo e)
    | none => s) s

/-- Whether a tap stands in its berth's outstanding final reads (R131). -/
def State.tapOutstanding (s : State) (t : TapId) : Bool :=
  match (s.tap t).berth with
  | some b => (s.berth b).awaits (.tap t)
  | none => false

/-- CLEAR TAP (R131). -/
def clearTapOwner (tap : Nat) : Owner := fun s =>
  match idOf 128 tap with
  | none => refuse .badValue s
  | some t =>
    let x := s.tap t
    match x.state with
    | .leak => done (putTap t { x with state := .closed, leakCount := 0 } 0 s)
    | .locked => done (putTap t { x with state := .closed, leakCount := 0 } 0 s)
    | .closed =>
      if x.finalOwed ∧ ¬ s.tapOutstanding t then
        done (s.setTap t { x with finalOwed := false, allowanceStay := none, estimated := true })
      else refuse .state s
    | .open => refuse .state s

def execClearTap (h : ReqHeader) (p : List Byte) (s : State) : Host.Outcome State Fault Refusal :=
  request h 0x3C p (clearTapOwner (rd p 0 2)) s

/-- LOCK TAP (R131). -/
def lockTapOwner (tap : Nat) : Owner := fun s =>
  match idOf 128 tap with
  | none => refuse .badValue s
  | some t =>
    let x := s.tap t
    match x.state with
    | .open => done (closeTap t .locked 10 s)
    | .locked => refuse .state s
    | _ => done (putTap t { x with state := .locked } 10 s)

def execLockTap (h : ReqHeader) (p : List Byte) (s : State) : Host.Outcome State Fault Refusal :=
  request h 0x3D p (lockTapOwner (rd p 0 2)) s

end Sys2Proof.Machine
end

