-- ==== Sys2Proof/Machine/Management.lean ====
section
/-! DEFINITION. The Trunk Port's own cases and the requests of the Management Handler (chapter 10 and R1, R190 to R192):
repeats, BUSY, STATUS, the upward queue, the record window, record writes by table, the marina and pontoon records, RUN,
RESTART, CLEAR, and the end of an answer. -/

namespace Sys2Proof.Machine

/-! ### The trunk port (R172, R173, R175) -/

/-- A repeat of the kept request: the kept answer is sent once more (R173). -/
def answerRepeat (h : ReqHeader) (code : Nat) (p : List Byte) (s : State) : State :=
  if s.goodRequest h code p ∧ s.trunk.owed = [] then
    match s.repeatAnswer h code with
    | some a => owe a s
    | none => s
  else s

def execRequestRepeat (h : ReqHeader) (code : Nat) (p : List Byte) (s : State) : Host.Outcome State Fault Refusal :=
  event (answerRepeat h code p) s

/-- A request that comes while an answer is still owed gets BUSY and is not kept (R173). -/
def answerBusy (h : ReqHeader) (code : Nat) (p : List Byte) (s : State) : State :=
  if s.goodRequest h code p ∧ s.trunk.owed ≠ [] then owe (s.answer h .busy) s else s

def execRequestBusy (h : ReqHeader) (code : Nat) (p : List Byte) (s : State) : Host.Outcome State Fault Refusal :=
  event (answerBusy h code p) s

/-- Whether a code is one of R195's table. -/
def knownCode (c : Nat) : Bool := (requestLength c).isSome

/-- The owner's place for a code that names no request: UNKNOWN, with nothing changed (R174, R175). -/
def unknownOwner : Owner := fun s => (s, .unknown)

/-- A code that names no request is answered UNKNOWN and changes nothing (R174, R175). -/
def answerUnknown (h : ReqHeader) (code : Nat) (p : List Byte) (s : State) : State :=
  if knownCode code then s else takeRequest h code p unknownOwner s

def execUnknownCode (h : ReqHeader) (code : Nat) (p : List Byte) (s : State) : Host.Outcome State Fault Refusal :=
  event (answerUnknown h code p) s

/-- The last character of an answer has been sent: the next owed answer may go, a new node address takes effect, and a
restart or full clear that this answer promised falls due (R173, R177, R191, R192). -/
def finishAnswer (s : State) : State :=
  match s.trunk.owed with
  | [] => s
  | _ :: rest =>
    { s with trunk := { s.trunk with
        owed := rest
        node := s.settings.node
        commandStart := match s.trunk.commandStart with
          | .restartAsked => .restartDue
          | .clearAsked => .clearDue
          | x => x } }

def execAnswerSent (s : State) : Host.Outcome State Fault Refusal := event finishAnswer s

/-! ### STATUS and FETCH NOTICE (R176, R184) -/

/-- The 30 bytes of a STATUS answer (R176, R195); the clock-set flag and LOST are a byte each, 1 for set: the model's choice (log
entry 46). -/
def State.statusPayload (s : State) : List Byte :=
  le 1 s.trunk.mode.ctorIdx ++ le 1 s.trunk.cause.ctorIdx ++ yn s.clock.isSet ++ le 4 s.stamp ++
  le 1 s.trunk.notices.length ++ yn s.trunk.lost ++
  s.power.feeders.toList.flatMap (fun f => le 1 f.state.ctorIdx) ++
  (List.finRange 6).flatMap (fun b => le 1 (s.lineState b).ctorIdx) ++
  le 1 s.offlineCount ++ le 2 s.exhaustedCount

/-- STATUS reports LOST as it stood, and then clears it (R176). -/
def statusOwner : Owner := fun s => ({ s with trunk := { s.trunk with lost := false } }, .done s.statusPayload)

def execStatus (h : ReqHeader) (p : List Byte) (s : State) : Host.Outcome State Fault Refusal :=
  request h 0x01 p statusOwner s

/-- FETCH NOTICE (R184). -/
def fetchNoticeOwner : Owner := fun s =>
  match s.trunk.notices with
  | n :: rest => ({ s with trunk := { s.trunk with notices := rest } }, .done n.coded)
  | [] => done s

def execFetchNotice (h : ReqHeader) (p : List Byte) (s : State) : Host.Outcome State Fault Refusal :=
  request h 0x02 p fetchNoticeOwner s

/-! ### The record window (R178, R179) -/

/-- The bytes left for records behind the answer's header of table, first index and number (R179). -/
def recordRoom : Nat := Config.trunkPayloadMax - 4

/-- READ NEXT (R179). -/
def readNextOwner : Owner := fun s =>
  match s.trunk.cursor with
  | none => refuse .state s
  | some c =>
    let r := gatherRecords s c.table c.count c.position recordRoom
    let past := c.position + r.1
    ({ s with trunk := { s.trunk with
        cursor := some { c with position := if past ≥ c.table.size then 0 else past } } },
     .done (le 1 c.table.ctorIdx ++ le 2 c.position ++ le 1 r.1 ++ r.2))

def execReadNext (h : ReqHeader) (p : List Byte) (s : State) : Host.Outcome State Fault Refusal :=
  request h 0x04 p readNextOwner s

/-- READ RECORDS opens the cursor and answers as READ NEXT would (R178). -/
def readRecordsOwner (table start count : Nat) : Owner := fun s =>
  match TableName.ofCode table, within 1 4 count with
  | some t, some n =>
    if start < t.size then
      readNextOwner { s with trunk := { s.trunk with cursor := some { table := t, position := start, count := n } } }
    else refuse .badValue s
  | _, _ => refuse .badValue s

def execReadRecords (h : ReqHeader) (p : List Byte) (s : State) : Host.Outcome State Fault Refusal :=
  request h 0x03 p (readRecordsOwner (rd p 0 1) (rd p 1 2) (rd p 3 1)) s

/-! ### Marina and pontoon records (R1, R110, R158, R177) -/

/-- WRITE RECORD to the marina settings (R177). -/
def writeMarina (index : Nat) (w : MarinaWrite) : Owner := fun s =>
  match idOf 1 index, checkMarina w with
  | some _, some v => done { s with settings := v }
  | _, _ => refuse .badValue s

def execWriteMarinaSettings (h : ReqHeader) (p : List Byte) (s : State) : Host.Outcome State Fault Refusal :=
  request h 0x05 (0 :: p) (recordWrite 17 (fun i r => writeMarina i (rdMarina r)) p) s

/-- The STATE checks of a pontoon write, in the order of R1: the commit limit, the budget (R110), gate present (R158). -/
def State.pontoonHeld (s : State) (p : PontoonId) (v : PontoonSettings) : Bool :=
  decide (v.commitLimit < s.committedAmps p) || decide (v.capacity - v.reserve < s.usedAmps p) ||
  ((s.pontoon p).gatePresent && !v.gatePresent &&
    (!(s.gate p).passages.isEmpty || decide ((s.gate p).lock = .unlocked)))

/-- A change of gate present at a pontoon write: a gate that leaves use is LOCKED with display code 0 (R158), and one that comes
into use while the gates are released joins the release (R168). -/
def changeGateUse (p : PontoonId) (was is : Bool) (s : State) : State :=
  if was && !is then
    putGate p { s.gate p with lock := .locked, display := 0 } s
  else if !was && is && s.gatesReleased then joinRelease p s
  else s

/-- An accepted pontoon write (R1, R110, R158). -/
def applyPontoonWrite (p : PontoonId) (v : PontoonSettings) (s : State) : State :=
  let old := s.pontoon p
  let s := changeGateUse p old.gatePresent v.gatePresent (s.setPontoon p v)
  if v.capacity - v.reserve > old.capacity - old.reserve then headroomIncrease p s else s

/-- WRITE RECORD to the pontoon table (R1). -/
def writePontoon (index : Nat) (w : PontoonWrite) : Owner := fun s =>
  match idOf 12 index, checkPontoon w with
  | some p, some v => if s.pontoonHeld p v then refuse .state s else done (applyPontoonWrite p v s)
  | _, _ => refuse .badValue s

def execWritePontoonRecord (h : ReqHeader) (p : List Byte) (s : State) : Host.Outcome State Fault Refusal :=
  request h 0x05 (1 :: p) (recordWrite 22 (fun i r => writePontoon i (rdPontoon r)) p) s

/-! ### WRITE RECORD by table (R180) -/

/-- The owner of a write of a table's record, its bytes read by the table's layout (R178, R193). A table marked refused is
refused STATE. -/
def writeByTable (t : TableName) (index : Nat) (record : List Byte) : Owner :=
  match t with
  | .marina => writeMarina index (rdMarina record)
  | .pontoon => writePontoon index (rdPontoon record)
  | .berth => writeBerth index (rdBerth record)
  | .stay => writeStay index (rdStay record)
  | .account => writeAccount index (rdAccount record)
  | .tariff => writeTariff index (rdTariff record)
  | .branch => writeBranch index (rdBranch record)
  | .station => writeStation index (rdStation record)
  | .filter => writeFilter index (rdFilter record)
  | .outlet => writeOutlet index (rdOutlet record)
  | .start => writeStart index (rdStart record)
  | .program => writeProgram index (rdProgram record)
  | .tap => writeTap index (rdTap record)
  | .tank => writeTank index (rdTank record)
  | .dispenser => writeDispenser index (rdDispenser record)
  | .credential => writeCredential index (rdCredential record)
  | .gate => writeGate index (rdGate record)
  | .signal => writeSignal index (rdSignal record)
  | .allocation => refuse .state
  | .hold => refuse .state
  | .passageLog => refuse .state

/-- WRITE RECORD in the order of R180's checks; the payload is table, index and record (R195). -/
def writeRecordOwner (p : List Byte) : Owner := fun s =>
  match TableName.ofCode (rd p 0 1) with
  | none => refuse .badValue s
  | some t =>
    if rd p 1 2 < t.size ∧ t.writeLength.all (fun n => decide (p.length = n + 3)) = true then
      writeByTable t (rd p 1 2) (p.drop 3) s
    else refuse .badValue s

def execWriteRecord (h : ReqHeader) (p : List Byte) (s : State) : Host.Outcome State Fault Refusal :=
  request h 0x05 p (writeRecordOwner p) s

/-! ### RUN, RESTART, CLEAR (R82, R190 to R192) -/

/-- A port that is on begins polling when RUN is taken (R82). -/
def runPort (b : BranchId) (s : State) : State := if (s.branch b).activeRate = 0 then s else ringAtLowest b s

/-- RUN (R190). -/
def runOwner : Owner := fun s =>
  if s.trunk.mode = .setup then
    done (forEach runPort (List.finRange 6) { s with trunk := { s.trunk with mode := .run } })
  else refuse .state s

def execRun (h : ReqHeader) (p : List Byte) (s : State) : Host.Outcome State Fault Refusal :=
  request h 0x61 p runOwner s

/-- RESTART (R191): the restart follows once the answer has been sent. A RESTART or CLEAR taken while an earlier one's start is
still to come replaces that start: the model's choice (log entry 57). -/
def restartOwner : Owner := fun s => done { s with trunk := { s.trunk with commandStart := .restartAsked } }

def execRestart (h : ReqHeader) (p : List Byte) (s : State) : Host.Outcome State Fault Refusal :=
  request h 0x62 p restartOwner s

/-- CLEAR (R192): the full clear follows once the answer has been sent, and replaces a start promised earlier (log entry 57). -/
def clearOwner : Owner := fun s =>
  if s.trunk.mode = .run then refuse .setupOnly s
  else done { s with trunk := { s.trunk with commandStart := .clearAsked } }

def execClear (h : ReqHeader) (p : List Byte) (s : State) : Host.Outcome State Fault Refusal :=
  request h 0x63 p clearOwner s

end Sys2Proof.Machine
end

