-- ==== Sys2Proof/Machine/Restart.lean ====
section
/-! DEFINITION. The starts of the part (R189 to R192) with the restart rule of each block (R22, R37, R61, R83, R108, R123, R132,
R154, R171), the full clear, and the events that lead to them: reset, power loss, power-up, and the starts that an answered
RESTART or CLEAR has promised. -/

namespace Sys2Proof.Machine

/-! ### The blocks' restart rules, in the order in which they are applied (log entry 26) -/

/-- The clock after `elapsed` seconds without the part running; its next advance comes one second after the start (R185). -/
def Clock.atRestart (c : Clock) (elapsed : Nat) : Clock :=
  if c.isSet then { c with value := min Config.clockMax (c.value + elapsed), nextAdvance := Config.secondMs } else c

/-- The clock, the internal time base, the strap and the trunk (R183, R185, R190, R191). -/
def restartPart (cause : RestartCause) (elapsed : Nat) (strapLow : Bool) (s : State) : State :=
  let s := { s with clock := s.clock.atRestart elapsed
                    part := { s.part with condition := .running, timeBase := 0, retentionAgrees := true,
                                          setupStrapLow := strapLow } }
  { s with trunk := Trunk.atStart s.settings.node (if strapLow then .setup else .run) cause s.stamp }

/-- The signal lines start unasserted, and the inputs are sampled afresh (R188, R189). -/
def restartLines (s : State) : State :=
  { s with lines := { signals := s.lines.signals.map (fun x => { x with asserted := false, timer := none })
                      fire := Input.atStart s.lines.fire.pinLow
                      estop := Input.atStart s.lines.estop.pinLow } }

/-- Each outstanding item's timer starts again at 60 s (R22). -/
def Berth.atRestart (b : Berth) : Berth :=
  { b with outstanding := b.outstanding.map (fun r => { r with endAt := Config.finalReadMs }) }

/-- The Register, the Fit Engine and the nightly pass (R22, R37, R61). -/
def restartRegister (s : State) : State :=
  { s with register := { s.register with berths := s.register.berths.map Berth.atRestart }
           engine := Engine.fullClear
           ledger := { s.ledger with pass := none } }

/-- A branch port at a restart (R83). -/
def Branch.atRestart (x : Branch) : Branch :=
  { x with activeRate := x.rateCode, ringPosition := none, passServed := false, slotCount := 0, relayMark := false,
           attention := [], relays := [], exchange := none, idleUntil := none }

/-- A station at a restart (R83). -/
def Station.atRestart (x : Station) (rate : Nat) : Station :=
  { x with state := if x.enabled && decide (rate ≠ 0) then .unknown else .unpolled, miss := 0, skip := 0,
           leaving := none }

/-- The branch ports (R83): the rings stand at their lowest addresses. -/
def restartLink (s : State) : State :=
  let s := { s with link := { s.link with
    branches := s.link.branches.map Branch.atRestart
    stations := s.link.stations.map (fun x => x.atRestart s.link.branches[x.branch].rateCode)
    waterShown := [] } }
  forEach runPort (List.finRange 6) s

/-- An outlet at a restart, but for its state (R84, R108). -/
def Outlet.atRestart (x : Outlet) : Outlet :=
  { x with deglitch := 0, startTimer := none, graceTimer := none, overLimit := 0, lastClear := none }

/-- An outlet that was STARTING, ON or GRACE becomes RESYNC (R108). -/
def resyncOutlet (o : OutletId) (s : State) : State := putOutlet o { s.outlet o with state := .resync } s

/-- A start record at a restart: its queue is rebuilt from the pontoon's QUEUED outlets in ascending id (R108). -/
def restartStart (s : State) (p : PontoonId) : StartRecord :=
  { s.start p with
    slot := none, upgrades := []
    queue := (s.outletsWhere (fun x => decide (x.state = .queued))).filter
      (fun o => decide (s.outletPontoon o = some p)) }

/-- The Shore Power Unit's outlets and starts (R108). The outlets become RESYNC in ascending order: the model's choice (log entry
47). -/
def restartOutlets (s : State) : State :=
  let s := { s with power := { s.power with outlets := s.power.outlets.map Outlet.atRestart } }
  let s := forEach resyncOutlet
    (s.outletsWhere (fun x => decide (x.state = .starting) || decide (x.state = .on) || decide (x.state = .grace))) s
  { s with power := { s.power with starts := Vector.ofFn (restartStart s) } }

/-- A feeder at a restart, but for its state (R123). -/
def Feeder.atRestart (f : Feeder) : Feeder :=
  { f with shedCause := none, position := none, stepTimer := none, lowCount := 0, overCount := 0, healthyCount := 0 }

/-- A feeder that is not NORMAL becomes RESTORING (R123). -/
def restartFeeder (p : PontoonId) (s : State) : State :=
  if (s.feeder p).state = .normal then s else startProgram true p .restart none s

/-- The feeders, once the outlets have been set (R123), in ascending order of their pontoons: the model's choice (log entry 47). -/
def restartFeeders (s : State) : State :=
  forEach restartFeeder (List.finRange 12)
    { s with power := { s.power with feeders := s.power.feeders.map Feeder.atRestart } }

/-- A tap at a restart (R132). -/
def Tap.atRestart (t : Tap) : Tap :=
  { t with leakCount := 0, runTimer := if t.state = .open then some (t.maxRun * Config.minuteMs) else none }

/-- The Water Service (R132). -/
def restartTaps (s : State) : State := { s with water := { s.water with taps := s.water.taps.map Tap.atRestart } }

/-- A gate at a restart (R171). The reader of a gate not in use has changed its state as well (R160). -/
def restartGate (g : PontoonId) (s : State) : State :=
  let x := { s.gate g with door := .unknown, heldTimer := none }
  if s.gateInUse g then
    putGate g { x with passages := [], unreliable := x.unreliable || !x.passages.isEmpty, lock := .locked,
                       display := 0, unlockEnd := none } s
  else s.setGate g x

/-- The Gate Controller (R171). -/
def restartGates (s : State) : State :=
  forEach restartGate (List.finRange 12) (setOfficeRelease false s)

/-- A dispenser at a restart (R154). -/
def restartDispenser (d : DispenserId) (s : State) : State :=
  let s := s.setDispenser d { s.dispenser d with nozzleTimer := none, settleTimer := none }
  match (s.dispenser d).state with
  | .authorised => abandonSale d .idle s
  | .delivering => putDispenser d { s.dispenser d with state := .settling } s
  | .settling => putDispenser d { s.dispenser d with state := .settling } s
  | _ => s

/-- The Fuel Dock Controller (R154), its dispensers in ascending order: the model's choice (log entry 47). -/
def restartFuel (s : State) : State := forEach restartDispenser (List.finRange 4) s

/-- A station at the filling of the attention lists: its block adds it where its condition holds (R83), but no reader joins before
a grant unlocks its gate (R171; log entry 48). -/
def attendAtRestart (st : StationId) (s : State) : State :=
  if (s.station st).kind = .gateReader then s else attendIfDue st s

/-- The attention list of a port, emptied and filled by the blocks' conditions as they stand, in ascending address order (R83; log
entry 18). -/
def refillAttention (b : BranchId) (s : State) : State :=
  forEach attendAtRestart ((s.ring b).map (·.2)) (s.setBranch b { s.branch b with attention := [] })

/-- A restart: it keeps the retained tables and applies each block's restart rule (R191). -/
def restartWith (cause : RestartCause) (elapsed : Nat) (strapLow : Bool) (s : State) : State :=
  let s := restartRegister (restartLines (restartPart cause elapsed strapLow s))
  let s := restartFuel (restartGates (restartTaps (restartFeeders (restartOutlets (restartLink s)))))
  let s := forEach consider (List.finRange 12) s
  finish (tryFilling (forEach refillAttention (List.finRange 6) s))

/-- A full clear (R192): every block takes its full-clear values; waiting commands, the pins' levels, RESET's among them, and the
model's count of free values are no tables of the part. -/
def fullClear (cause : RestartCause) (mode : PartMode) (strapLow : Bool) (s : State) : State :=
  finish { State.reset with
    pending := s.pending
    part := { State.reset.part with setupStrapLow := strapLow, resetLow := s.part.resetLow, draws := s.part.draws }
    trunk := Trunk.atStart State.reset.settings.node mode cause 0
    lines := { State.reset.lines with fire := Input.atStart s.lines.fire.pinLow
                                      estop := Input.atStart s.lines.estop.pinLow } }

/-! ### The events (R191, R192) -/

/-- The part takes a condition in which it does not run. -/
def halt (c : PartCondition) (s : State) : State := { s with part := { s.part with condition := c } }

/-- The level of the RESET input. -/
def setResetLow (low : Bool) (s : State) : State := { s with part := { s.part with resetLow := low } }

/-- The start at power-up: the check decides on a restart, when the cell has held a memory that agrees with its check value, or on
a full clear (R191). -/
def startAtPowerUp (cellHeld : Bool) (elapsed : Nat) (strapLow : Bool) (s : State) : State :=
  if cellHeld && s.part.retentionAgrees then restartWith .power elapsed strapLow s
  else fullClear .retentionLost (if strapLow then .setup else .run) strapLow s

/-- Power-up: the start of the check's outcome; a part whose RESET is low at that moment is then held in reset (R191; log entry
35). -/
def execPowerUp (cellHeld : Bool) (elapsed : Nat) (strapLow : Bool) (s : State) : Host.Outcome State Fault Refusal :=
  .next (
    if s.part.condition = .unpowered then
      let t := startAtPowerUp cellHeld elapsed strapLow s
      if s.part.resetLow then halt .inReset t else t
    else s)

/-- RESET is pulled low: a running part is held in reset (R191). -/
def execResetAsserted (s : State) : Host.Outcome State Fault Refusal :=
  .next (
    let s := setResetLow true s
    if s.part.condition = .running then halt .inReset s else s)

/-- RESET returns high: a part held in reset makes a restart (R191). -/
def execResetReleased (elapsed : Nat) (strapLow : Bool) (s : State) : Host.Outcome State Fault Refusal :=
  .next (
    let s := setResetLow false s
    if s.part.condition = .inReset then restartWith .resetLine elapsed strapLow s else s)

/-- The supply fails (R191). A loss that cuts an event short leaves the tables and their check value disagreeing; a part held
in reset has no event to cut. -/
def execPowerLoss (cutShort : Bool) (s : State) : Host.Outcome State Fault Refusal :=
  .next (
    match s.part.condition with
    | .unpowered => s
    | .inReset => halt .unpowered s
    | .running =>
      let s := halt .unpowered s
      { s with part := { s.part with retentionAgrees := s.part.retentionAgrees && !cutShort } })

/-- The restart that an answered RESTART has promised (R191). -/
def execCommandRestart (elapsed : Nat) (strapLow : Bool) (s : State) : Host.Outcome State Fault Refusal :=
  .next (
    if s.part.condition = .running ∧ s.trunk.commandStart = .restartDue then restartWith .command elapsed strapLow s else s)

/-- The full clear that an answered CLEAR has promised: it leaves the part in SETUP mode (R190, R192). -/
def execClearCommandFullClear (s : State) : Host.Outcome State Fault Refusal :=
  .next (
    if s.part.condition = .running ∧ s.trunk.commandStart = .clearDue then
      fullClear .clearCommand .setup s.part.setupStrapLow s
    else s)

end Sys2Proof.Machine
end

