-- ==== Sys2Proof/Machine/Trunk.lean ====
section
/-! DEFINITION. The bytes of the trunk (R172, R175, R195): a received telegram is read by the layouts of chapter 12, and one that is a
good request goes to the owner of its code. -/

namespace Sys2Proof.Machine

/-- The owner of a request code and its work on the payload, read by the code's layout (R175, R195). -/
def requestOwner (h : ReqHeader) (code : Nat) (p : List Byte) : Owner :=
  match code with
  | 0x01 => statusOwner
  | 0x02 => fetchNoticeOwner
  | 0x03 => readRecordsOwner (rd p 0 1) (rd p 1 2) (rd p 3 1)
  | 0x04 => readNextOwner
  | 0x05 => writeRecordOwner p
  | 0x06 => relayRequest h p
  | 0x10 => createStayOwner (rdStay p)
  | 0x11 => assignOwner (rd p 0 2) (rd p 2 2)
  | 0x12 => unassignOwner (rd p 0 2)
  | 0x13 => cancelStayOwner (rd p 0 2)
  | 0x14 => arriveOwner (rd p 0 2)
  | 0x15 => extendOwner (rd p 0 2) (rd p 2 4)
  | 0x16 => departOwner (rd p 0 2)
  | 0x17 => moveOwner (rd p 0 2) (rd p 2 2)
  | 0x18 => openBerthOwner (rd p 0 2)
  | 0x19 => closeBerthOwner (rd p 0 2)
  | 0x1A => allocateOwner (rd p 0 2)
  | 0x20 => openAccountOwner (rd p 0 2) (rdAccount (p.drop 2))
  | 0x21 => suspendAccountOwner (rd p 0 2)
  | 0x22 => resumeAccountOwner (rd p 0 2)
  | 0x23 => closeAccountOwner (rd p 0 2)
  | 0x24 => creditOwner (rd p 0 2) (rd p 2 4)
  | 0x25 => debitOwner (rd p 0 2) (rd p 2 4)
  | 0x26 => clearSaturatedOwner (rd p 0 2)
  | 0x27 => holdRequest p
  | 0x28 => releaseHoldOwner (rd p 0 2)
  | 0x30 => resetOutletOwner (rd p 0 2)
  | 0x31 => lockOutletOwner (rd p 0 2)
  | 0x32 => unlockOutletOwner (rd p 0 2)
  | 0x38 => shedFeederOwner (rd p 0 2)
  | 0x39 => restoreFeederOwner (rd p 0 2)
  | 0x3C => clearTapOwner (rd p 0 2)
  | 0x3D => lockTapOwner (rd p 0 2)
  | 0x40 => authoriseOwner (rd p 0 2) (rd p 2 2) (rd p 4 4) (rd p 8 1)
  | 0x41 => cancelSaleOwner (rd p 0 2)
  | 0x42 => openDispenserOwner (rd p 0 2)
  | 0x43 => closeDispenserOwner (rd p 0 2)
  | 0x44 => stockOwner (rd p 0 2) (rd p 2 4)
  | 0x45 => setStockOwner (rd p 0 2) (rd p 2 4)
  | 0x46 => readSaleOwner
  | 0x47 => dropSaleOwner (rd p 0 2)
  | 0x50 => releaseGatesOwner
  | 0x51 => secureGatesOwner
  | 0x52 => setHeadcountOwner (rd p 0 2) (rd p 2 2)
  | 0x53 => clearGateAlarmOwner (rd p 0 2)
  | 0x60 => setClockOwner (rd p 0 4) (rd p 4 4)
  | 0x61 => runOwner
  | 0x62 => restartOwner
  | 0x63 => clearOwner
  | _ => unknownOwner

/-- A received telegram: one of kind ANSWER or too short for its fields is discarded, as is one with another node, a bad check or
a wrong length; a good request goes to its owner (R172, R173, R175). -/
def receiveTelegram (bytes : List Byte) (s : State) : State :=
  match readTelegram bytes with
  | some (h, code, p) => takeRequest h code p (requestOwner h code p) s
  | none => s

/-- A telegram on the trunk that is no good request is discarded without an answer, and nothing is changed by it (R172). Which
telegram is one, its bytes decide (log entry 32). -/
def execTrunkTelegramDiscarded (bytes : List Byte) (s : State) : Host.Outcome State Fault Refusal :=
  event (receiveTelegram bytes) s

end Sys2Proof.Machine
end

