-- ==== Sys2Proof/Machine/Dispatch.lean ====
section
/-! DEFINITION. One arm for each command: its meaning. -/

namespace Sys2Proof.Machine

/-- The effect of a command on everything but the queue of waiting commands. -/
def exec (i : Instr) (s : State) : Host.Outcome State Fault Refusal :=
  match i with
  | .trunkTelegramDiscarded bytes => Sys2Proof.Machine.execTrunkTelegramDiscarded bytes s
  | .requestRepeat h code p => Sys2Proof.Machine.execRequestRepeat h code p s
  | .requestBusy h code p => Sys2Proof.Machine.execRequestBusy h code p s
  | .unknownCode h code p => Sys2Proof.Machine.execUnknownCode h code p s
  | .status h p => Sys2Proof.Machine.execStatus h p s
  | .fetchNotice h p => Sys2Proof.Machine.execFetchNotice h p s
  | .readRecords h p => Sys2Proof.Machine.execReadRecords h p s
  | .readNext h p => Sys2Proof.Machine.execReadNext h p s
  | .writeRecord h p => Sys2Proof.Machine.execWriteRecord h p s
  | .writeMarinaSettings h p => Sys2Proof.Machine.execWriteMarinaSettings h p s
  | .writePontoonRecord h p => Sys2Proof.Machine.execWritePontoonRecord h p s
  | .writeBerthRecord h p => Sys2Proof.Machine.execWriteBerthRecord h p s
  | .writeStayRecord h p => Sys2Proof.Machine.execWriteStayRecord h p s
  | .writeAccountRecord h p => Sys2Proof.Machine.execWriteAccountRecord h p s
  | .writeTariffRecord h p => Sys2Proof.Machine.execWriteTariffRecord h p s
  | .writeBranchRecord h p => Sys2Proof.Machine.execWriteBranchRecord h p s
  | .writeStationRecord h p => Sys2Proof.Machine.execWriteStationRecord h p s
  | .writeFilterRecord h p => Sys2Proof.Machine.execWriteFilterRecord h p s
  | .writeOutletRecord h p => Sys2Proof.Machine.execWriteOutletRecord h p s
  | .writeStartRecord h p => Sys2Proof.Machine.execWriteStartRecord h p s
  | .writeProgramRecord h p => Sys2Proof.Machine.execWriteProgramRecord h p s
  | .writeTapRecord h p => Sys2Proof.Machine.execWriteTapRecord h p s
  | .writeTankRecord h p => Sys2Proof.Machine.execWriteTankRecord h p s
  | .writeDispenserRecord h p => Sys2Proof.Machine.execWriteDispenserRecord h p s
  | .writeCredentialRecord h p => Sys2Proof.Machine.execWriteCredentialRecord h p s
  | .writeGateRecord h p => Sys2Proof.Machine.execWriteGateRecord h p s
  | .writeSignalRecord h p => Sys2Proof.Machine.execWriteSignalRecord h p s
  | .createStay h p => Sys2Proof.Machine.execCreateStay h p s
  | .assign h p => Sys2Proof.Machine.execAssign h p s
  | .unassign h p => Sys2Proof.Machine.execUnassign h p s
  | .cancelStay h p => Sys2Proof.Machine.execCancelStay h p s
  | .arrive h p => Sys2Proof.Machine.execArrive h p s
  | .extend h p => Sys2Proof.Machine.execExtend h p s
  | .depart h p => Sys2Proof.Machine.execDepart h p s
  | .move h p => Sys2Proof.Machine.execMove h p s
  | .openBerth h p => Sys2Proof.Machine.execOpenBerth h p s
  | .closeBerth h p => Sys2Proof.Machine.execCloseBerth h p s
  | .allocate h p => Sys2Proof.Machine.execAllocate h p s
  | .stayLapse stay => Sys2Proof.Machine.execStayLapse stay s
  | .overstay stay => Sys2Proof.Machine.execOverstay stay s
  | .finalReadTimeout berth item => Sys2Proof.Machine.execFinalReadTimeout berth item s
  | .leadSubmission => Sys2Proof.Machine.execLeadSubmission s
  | .resubmission => Sys2Proof.Machine.execResubmission s
  | .scanStep => Sys2Proof.Machine.execScanStep s
  | .attemptComplete => Sys2Proof.Machine.execAttemptComplete s
  | .openAccount h p => Sys2Proof.Machine.execOpenAccount h p s
  | .suspendAccount h p => Sys2Proof.Machine.execSuspendAccount h p s
  | .resumeAccount h p => Sys2Proof.Machine.execResumeAccount h p s
  | .closeAccount h p => Sys2Proof.Machine.execCloseAccount h p s
  | .credit h p => Sys2Proof.Machine.execCredit h p s
  | .debit h p => Sys2Proof.Machine.execDebit h p s
  | .clearSaturated h p => Sys2Proof.Machine.execClearSaturated h p s
  | .hold h p => Sys2Proof.Machine.execHold h p s
  | .releaseHold h p => Sys2Proof.Machine.execReleaseHold h p s
  | .holdExpiry slot => Sys2Proof.Machine.execHoldExpiry slot s
  | .nightlyPassStart => Sys2Proof.Machine.execNightlyPassStart s
  | .nightlyPassStep => Sys2Proof.Machine.execNightlyPassStep s
  | .rolloverDone => Sys2Proof.Machine.execRolloverDone s
  | .slotSelection branch => Sys2Proof.Machine.execSlotSelection branch s
  | .ringIdleTimeout branch => Sys2Proof.Machine.execRingIdleTimeout branch s
  | .answerTimeout branch => Sys2Proof.Machine.execAnswerTimeout branch s
  | .badReply branch reply => Sys2Proof.Machine.execBadReply branch reply s
  | .relayAnswer branch reply => Sys2Proof.Machine.execRelayAnswer branch reply s
  | .postReport branch reply => Sys2Proof.Machine.execPostReport branch reply s
  | .gateReaderReport branch reply => Sys2Proof.Machine.execGateReaderReport branch reply s
  | .dispenserReport branch reply => Sys2Proof.Machine.execDispenserReport branch reply s
  | .feederMonitorReport branch reply => Sys2Proof.Machine.execFeederMonitorReport branch reply s
  | .relay h p => Sys2Proof.Machine.execRelay h p s
  | .startTimerExpiry outlet => Sys2Proof.Machine.execStartTimerExpiry outlet s
  | .graceTimerExpiry outlet => Sys2Proof.Machine.execGraceTimerExpiry outlet s
  | .resetOutlet h p => Sys2Proof.Machine.execResetOutlet h p s
  | .lockOutlet h p => Sys2Proof.Machine.execLockOutlet h p s
  | .unlockOutlet h p => Sys2Proof.Machine.execUnlockOutlet h p s
  | .shedFeeder h p => Sys2Proof.Machine.execShedFeeder h p s
  | .restoreFeeder h p => Sys2Proof.Machine.execRestoreFeeder h p s
  | .programStepTimer pontoon => Sys2Proof.Machine.execProgramStepTimer pontoon s
  | .runTimerExpiry tap => Sys2Proof.Machine.execRunTimerExpiry tap s
  | .clearTap h p => Sys2Proof.Machine.execClearTap h p s
  | .lockTap h p => Sys2Proof.Machine.execLockTap h p s
  | .stock h p => Sys2Proof.Machine.execStock h p s
  | .setStock h p => Sys2Proof.Machine.execSetStock h p s
  | .openDispenser h p => Sys2Proof.Machine.execOpenDispenser h p s
  | .closeDispenser h p => Sys2Proof.Machine.execCloseDispenser h p s
  | .authorise h p => Sys2Proof.Machine.execAuthorise h p s
  | .nozzleTimeout dispenser => Sys2Proof.Machine.execNozzleTimeout dispenser s
  | .cancelSale h p => Sys2Proof.Machine.execCancelSale h p s
  | .offlineSettleTimeout dispenser => Sys2Proof.Machine.execOfflineSettleTimeout dispenser s
  | .estopAsserted => Sys2Proof.Machine.execEstopAsserted s
  | .estopReleased => Sys2Proof.Machine.execEstopReleased s
  | .readSale h p => Sys2Proof.Machine.execReadSale h p s
  | .dropSale h p => Sys2Proof.Machine.execDropSale h p s
  | .unlockTimerExpiry gate => Sys2Proof.Machine.execUnlockTimerExpiry gate s
  | .doorHeldTimeout gate => Sys2Proof.Machine.execDoorHeldTimeout gate s
  | .clearGateAlarm h p => Sys2Proof.Machine.execClearGateAlarm h p s
  | .fireAsserted => Sys2Proof.Machine.execFireAsserted s
  | .fireReleased => Sys2Proof.Machine.execFireReleased s
  | .releaseGates h p => Sys2Proof.Machine.execReleaseGates h p s
  | .secureGates h p => Sys2Proof.Machine.execSecureGates h p s
  | .setHeadcount h p => Sys2Proof.Machine.execSetHeadcount h p s
  | .exitOnlyExpiry slot => Sys2Proof.Machine.execExitOnlyExpiry slot s
  | .clockAdvance => Sys2Proof.Machine.execClockAdvance s
  | .setClock h p => Sys2Proof.Machine.execSetClock h p s
  | .stretchTimerExpiry line => Sys2Proof.Machine.execStretchTimerExpiry line s
  | .run h p => Sys2Proof.Machine.execRun h p s
  | .restart h p => Sys2Proof.Machine.execRestart h p s
  | .commandRestart elapsed strapLow => Sys2Proof.Machine.execCommandRestart elapsed strapLow s
  | .clear h p => Sys2Proof.Machine.execClear h p s
  | .clearCommandFullClear => Sys2Proof.Machine.execClearCommandFullClear s
  | .powerUp cellHeld elapsed strapLow => Sys2Proof.Machine.execPowerUp cellHeld elapsed strapLow s
  | .resetAsserted => Sys2Proof.Machine.execResetAsserted s
  | .resetReleased elapsed strapLow => Sys2Proof.Machine.execResetReleased elapsed strapLow s
  | .powerLoss cutShort => Sys2Proof.Machine.execPowerLoss cutShort s
  | .answerSent => Sys2Proof.Machine.execAnswerSent s
  | .replyBegin branch => Sys2Proof.Machine.execReplyBegin branch s

end Sys2Proof.Machine
end

