-- ==== Sys2Proof/Safety.lean ====
section
/-! DEFINITION. The terms in which statements speak of the part: a request that is taken, its reply, the blocks an event keeps,
and the bounds and relations that hold between events. -/

namespace Sys2Proof.Machine

/-! ### Requests -/

/-- The header, request code and payload of a command that is a whole request of R195's table; the three rows that the Trunk
Port itself answers, a repeat, a request while an answer is owed and an unknown code, are not among them. -/
def asked? : Instr → Option (ReqHeader × Nat × List Byte)
  | .status h p => some (h, 0x01, p)
  | .fetchNotice h p => some (h, 0x02, p)
  | .readRecords h p => some (h, 0x03, p)
  | .readNext h p => some (h, 0x04, p)
  | .writeRecord h p => some (h, 0x05, p)
  | .writeMarinaSettings h p => some (h, 0x05, 0 :: p)
  | .writePontoonRecord h p => some (h, 0x05, 1 :: p)
  | .writeBerthRecord h p => some (h, 0x05, 2 :: p)
  | .writeStayRecord h p => some (h, 0x05, 3 :: p)
  | .writeAccountRecord h p => some (h, 0x05, 5 :: p)
  | .writeTariffRecord h p => some (h, 0x05, 7 :: p)
  | .writeBranchRecord h p => some (h, 0x05, 8 :: p)
  | .writeStationRecord h p => some (h, 0x05, 9 :: p)
  | .writeFilterRecord h p => some (h, 0x05, 10 :: p)
  | .writeOutletRecord h p => some (h, 0x05, 11 :: p)
  | .writeStartRecord h p => some (h, 0x05, 12 :: p)
  | .writeProgramRecord h p => some (h, 0x05, 13 :: p)
  | .writeTapRecord h p => some (h, 0x05, 14 :: p)
  | .writeTankRecord h p => some (h, 0x05, 15 :: p)
  | .writeDispenserRecord h p => some (h, 0x05, 16 :: p)
  | .writeCredentialRecord h p => some (h, 0x05, 17 :: p)
  | .writeGateRecord h p => some (h, 0x05, 18 :: p)
  | .writeSignalRecord h p => some (h, 0x05, 20 :: p)
  | .createStay h p => some (h, 0x10, p)
  | .assign h p => some (h, 0x11, p)
  | .unassign h p => some (h, 0x12, p)
  | .cancelStay h p => some (h, 0x13, p)
  | .arrive h p => some (h, 0x14, p)
  | .extend h p => some (h, 0x15, p)
  | .depart h p => some (h, 0x16, p)
  | .move h p => some (h, 0x17, p)
  | .openBerth h p => some (h, 0x18, p)
  | .closeBerth h p => some (h, 0x19, p)
  | .allocate h p => some (h, 0x1A, p)
  | .openAccount h p => some (h, 0x20, p)
  | .suspendAccount h p => some (h, 0x21, p)
  | .resumeAccount h p => some (h, 0x22, p)
  | .closeAccount h p => some (h, 0x23, p)
  | .credit h p => some (h, 0x24, p)
  | .debit h p => some (h, 0x25, p)
  | .clearSaturated h p => some (h, 0x26, p)
  | .hold h p => some (h, 0x27, p)
  | .releaseHold h p => some (h, 0x28, p)
  | .relay h p => some (h, 0x06, p)
  | .resetOutlet h p => some (h, 0x30, p)
  | .lockOutlet h p => some (h, 0x31, p)
  | .unlockOutlet h p => some (h, 0x32, p)
  | .shedFeeder h p => some (h, 0x38, p)
  | .restoreFeeder h p => some (h, 0x39, p)
  | .clearTap h p => some (h, 0x3C, p)
  | .lockTap h p => some (h, 0x3D, p)
  | .stock h p => some (h, 0x44, p)
  | .setStock h p => some (h, 0x45, p)
  | .openDispenser h p => some (h, 0x42, p)
  | .closeDispenser h p => some (h, 0x43, p)
  | .authorise h p => some (h, 0x40, p)
  | .cancelSale h p => some (h, 0x41, p)
  | .readSale h p => some (h, 0x46, p)
  | .dropSale h p => some (h, 0x47, p)
  | .clearGateAlarm h p => some (h, 0x53, p)
  | .releaseGates h p => some (h, 0x50, p)
  | .secureGates h p => some (h, 0x51, p)
  | .setHeadcount h p => some (h, 0x52, p)
  | .setClock h p => some (h, 0x60, p)
  | .run h p => some (h, 0x61, p)
  | .restart h p => some (h, 0x62, p)
  | .clear h p => some (h, 0x63, p)
  | _ => none

/-- The row that writes a record of a table, with the payload behind the table's byte; none for a table marked refused (R178,
R180). -/
def TableName.row (t : TableName) (h : ReqHeader) (p : List Byte) : Option Instr :=
  match t with
  | .marina => some (.writeMarinaSettings h p)
  | .pontoon => some (.writePontoonRecord h p)
  | .berth => some (.writeBerthRecord h p)
  | .stay => some (.writeStayRecord h p)
  | .allocation => none
  | .account => some (.writeAccountRecord h p)
  | .hold => none
  | .tariff => some (.writeTariffRecord h p)
  | .branch => some (.writeBranchRecord h p)
  | .station => some (.writeStationRecord h p)
  | .filter => some (.writeFilterRecord h p)
  | .outlet => some (.writeOutletRecord h p)
  | .start => some (.writeStartRecord h p)
  | .program => some (.writeProgramRecord h p)
  | .tap => some (.writeTapRecord h p)
  | .tank => some (.writeTankRecord h p)
  | .dispenser => some (.writeDispenserRecord h p)
  | .credential => some (.writeCredentialRecord h p)
  | .gate => some (.writeGateRecord h p)
  | .passageLog => none
  | .signal => some (.writeSignalRecord h p)

/-- Whether two records of a table say the same settings: read by the table's layout (R193) and checked, they give one result. -/
def TableName.agrees (t : TableName) (a b : List Byte) : Prop :=
  match t with
  | .marina => checkMarina (rdMarina a) = checkMarina (rdMarina b)
  | .pontoon => checkPontoon (rdPontoon a) = checkPontoon (rdPontoon b)
  | .berth => checkBerth (rdBerth a) = checkBerth (rdBerth b)
  | .stay => checkStay (rdStay a) = checkStay (rdStay b)
  | .account => checkAccount (rdAccount a) = checkAccount (rdAccount b)
  | .tariff => checkTariff (rdTariff a) = checkTariff (rdTariff b)
  | .branch => checkBranch (rdBranch a) = checkBranch (rdBranch b)
  | .station => checkStation (rdStation a) = checkStation (rdStation b)
  | .filter => checkFilter (rdFilter a) = checkFilter (rdFilter b)
  | .outlet => checkOutlet (rdOutlet a) = checkOutlet (rdOutlet b)
  | .start => checkStart (rdStart a) = checkStart (rdStart b)
  | .program => stepsChecked (rdProgram a) = stepsChecked (rdProgram b)
  | .tap => checkTap (rdTap a) = checkTap (rdTap b)
  | .tank => checkTank (rdTank a) = checkTank (rdTank b)
  | .dispenser => checkDispenser (rdDispenser a) = checkDispenser (rdDispenser b)
  | .credential => checkCredential (rdCredential a) = checkCredential (rdCredential b)
  | .gate => checkGate (rdGate a) = checkGate (rdGate b)
  | .signal => checkSignal (rdSignal a) = checkSignal (rdSignal b)
  | .allocation => True
  | .hold => True
  | .passageLog => True

/-- Whether a record of a table lies within the ranges of its rule: read by the table's layout (R193), it passes the check of its
table; kind NONE empties a credential slot (R156). Of a table marked refused (R178) nothing is asked. -/
def TableName.admits (t : TableName) (r : List Byte) : Prop :=
  match t with
  | .marina => (checkMarina (rdMarina r)).isSome = true
  | .pontoon => (checkPontoon (rdPontoon r)).isSome = true
  | .berth => (checkBerth (rdBerth r)).isSome = true
  | .stay => (checkStay (rdStay r)).isSome = true
  | .account => (checkAccount (rdAccount r)).isSome = true
  | .tariff => (checkTariff (rdTariff r)).isSome = true
  | .branch => (checkBranch (rdBranch r)).isSome = true
  | .station => (checkStation (rdStation r)).isSome = true
  | .filter => (checkFilter (rdFilter r)).isSome = true
  | .outlet => (checkOutlet (rdOutlet r)).isSome = true
  | .start => (checkStart (rdStart r)).isSome = true
  | .program => (stepsChecked (rdProgram r)).isSome = true
  | .tap => (checkTap (rdTap r)).isSome = true
  | .tank => (checkTank (rdTank r)).isSome = true
  | .dispenser => (checkDispenser (rdDispenser r)).isSome = true
  | .credential => (rdCredential r).kind = 4 ∨ (checkCredential (rdCredential r)).isSome = true
  | .gate => (checkGate (rdGate r)).isSome = true
  | .signal => (checkSignal (rdSignal r)).isSome = true
  | .allocation => True
  | .hold => True
  | .passageLog => True

/-- Whether the state of record `i` of a table admits a write, for the tables whose state test comes before the test of the ranges
(R4, R10, R40, R85, R125, R136). -/
def State.writable (s : State) (t : TableName) (i : Nat) : Prop :=
  match t with
  | .berth => ∀ b : BerthId, b.val = i → (s.berth b).state = .free ∨ (s.berth b).state = .closed
  | .stay => ∀ y : StayId, y.val = i → (s.stay y).state = .expected ∨ (s.stay y).state = .arrived
  | .account => ∀ a : AccountId, a.val = i → (s.account a).state ≠ .closed
  | .outlet => ∀ o : OutletId, o.val = i → (s.outlet o).state ∈ [.vacant, .plugged, .shed, .tripped, .locked]
  | .tap => ∀ a : TapId, a.val = i → (s.tap a).state ≠ .open ∧ (s.tap a).finalOwed = false
  | .dispenser => ∀ d : DispenserId, d.val = i → (s.dispenser d).state.holdsSale = false
  | _ => True

/-- A good request that the Trunk Port takes: the part runs, check, node and length are right, no answer is owed, and it is no
repeat (R172, R173). -/
structure State.Hears (s : State) (h : ReqHeader) (code : Nat) (p : List Byte) : Prop where
  running : s.part.condition = .running
  good    : s.goodRequest h code p = true
  free    : s.trunk.owed = []
  fresh   : s.repeatAnswer h code = none

/-- A taken request that is handed to its owner: its payload has a length of its code's layout (R175). -/
structure State.Takes (s : State) (h : ReqHeader) (code : Nat) (p : List Byte) : Prop extends s.Hears h code p where
  sized : lengthFits code p = true

/-- A taken WRITE RECORD of a table: `p` is the payload behind the table's byte, with the index `i` and a record of the table's
length (R180, R195). -/
structure State.Writes (s : State) (h : ReqHeader) (t : TableName) (p : List Byte) (i : Nat) : Prop where
  taken : s.Takes h 0x05 (BitVec.ofNat 8 t.ctorIdx :: p)
  sized : t.writeLength = some (p.length - 2)
  index : rd p 0 2 = i

/-- In `t` the part owes one answer, that to the request `h` with `code` taken in state `s`, and keeps the request with its
whole answer (R173). -/
def State.Replies (t s : State) (h : ReqHeader) (code : Nat) (body : AnswerBody) : Prop :=
  t.trunk.owed = [s.answer h body] ∧
  t.trunk.kept = some { tag := h.tag, code := code, length := h.length, check := h.check, answer := s.answer h body }

/-- The bytes of a REQUEST telegram: its fields and its check, low byte first (R172, R195, R196). -/
def requestTelegram (h : ReqHeader) (code : Nat) (p : List Byte) : List Byte := requestBytes h code p ++ le 2 h.check

/-! ### Replies of stations (R64, R194) -/

/-- The flags and values of one outlet entry as a post codes them (R194). -/
def outletEntryBytes (e : OutletEntry) : List Byte :=
  flagGroup [e.plug, e.energised, e.leakage, e.overcurrent] ++ le 1 e.current ++ le 4 e.energy.toNat

/-- One tap entry as a post codes it (R194). -/
def tapEntryBytes (e : TapEntry) : List Byte := flagGroup [e.valveOpen, e.flowing] ++ le 4 e.flow.toNat

/-- The event of a gate reader as it codes it: type and number (R194). -/
def readerEventBytes : ReaderEvent → List Byte
  | .cardIn n => le 1 0 ++ le 4 n.toNat
  | .cardOut n => le 1 1 ++ le 4 n.toNat
  | .exitButton => le 1 2 ++ le 4 0

/-- The payload of a station's report (R194). -/
def Report.bytes : Report → List Byte
  | .post outlets taps toggle =>
    outlets.flatMap outletEntryBytes ++ taps.flatMap tapEntryBytes ++ toggle.toList.flatMap (fun k => le 1 k.val)
  | .reader doorOpen event => yn doorOpen ++ event.toList.flatMap readerEventBytes
  | .dispenser lifted pumping final delivered card =>
    flagGroup [lifted, pumping, final] ++ le 4 delivered ++ card.toList.flatMap (fun n => le 4 n.toNat)
  | .monitor voltage current breakerOpen => le 2 voltage ++ le 2 current ++ yn breakerOpen

/-- Whether a report is one of a station with an event byte: its kind and counts, an event exactly where EVENT is set, and
every number within its width (R66, R194). -/
def Report.fits (r : Report) (x : Station) (ev : EventByte) : Prop :=
  match r with
  | .post outlets taps toggle =>
    x.kind = .post ∧ x.outletCount = some outlets.length ∧ x.tapCount = some taps.length ∧ outlets.length ≤ 4 ∧
    taps.length ≤ 2 ∧ (∀ e ∈ outlets, e.current < 256) ∧ toggle.isSome = ev.event ∧ ∀ k, toggle = some k → k.val < taps.length
  | .reader _ event => x.kind = .gateReader ∧ event.isSome = ev.event
  | .dispenser _ _ _ delivered card => x.kind = .dispenser ∧ delivered < 4294967296 ∧ card.isSome = ev.event
  | .monitor voltage current _ => x.kind = .feederMonitor ∧ voltage < 65536 ∧ current < 65536

/-- The event byte as a station sends it (R64, R194). -/
def eventByteOf (ev : EventByte) : Byte :=
  BitVec.ofNat 8 (ev.number.val + (if ev.event then 16 else 0) + (if ev.started then 32 else 0))

/-- A REPORT telegram (R64, R194). -/
def reportTelegram (address : Nat) (ev : EventByte) (r : Report) : List Byte :=
  withCheck ([BitVec.ofNat 8 address, 2, eventByteOf ev, BitVec.ofNat 8 r.bytes.length] ++ r.bytes)

/-- A RELAY_ANSWER telegram (R64, R80). -/
def relayAnswerTelegram (address : Nat) (status : Byte) (payload : List Byte) : List Byte :=
  withCheck ([BitVec.ofNat 8 address, 4, status, BitVec.ofNat 8 payload.length] ++ payload)

/-- The part runs, and `reply` is a good report of station `st`, with event byte `ev` and contents `r`, that comes while the
station's POLL is in flight on branch `b`, to be judged: no disabling of the station waits on the exchange, and no rate code
(R63, R65, R66, R68). -/
structure State.Polled (s : State) (b : BranchId) (st : StationId) (reply : List Byte) (ev : EventByte) (r : Report) : Prop where
  running : s.part.condition = .running
  awaited : ∃ x, (s.branch b).exchange = some x ∧ x.station = st ∧ x.kind = .poll ∧ x.discard = false
  staying : (s.station st).leaving = none
  rate    : (s.branch b).activeRate = (s.branch b).rateCode
  good    : (s.station st).goodReport reply = some (ev, r)

/-! ### What the stations show, and the outcome of the permit (R72, R87, R90, R91, R126, R137, R159) -/

/-- In `t` the post of outlet `o` shows its switch, its limit code and the condition of R87's display table. It is said of a post
with no other outlet, whose display code no other outlet then writes, in an event that begins with no post as shown by the Water
Service (`State.WithinBounds`). -/
def State.Shows (t s : State) (o : OutletId) (on : Bool) (code condition : Nat) : Prop :=
  ∀ st, (s.outlet o).post = some st → (∀ q, q ≠ o → (s.outlet q).post ≠ some st) → s.link.waterShown = [] →
    (t.station st).image.outlets[(s.outlet o).socket] = { on := on, code := code } ∧
    (t.station st).image.postDisplay = 16 * (s.outlet o).socket.val + condition

/-- In `t` the post of tap `a` shows the condition of R126's display table, and the valve of a tap that has changed its state. -/
def State.ShowsTap (t s : State) (a : TapId) (condition : Nat) : Prop :=
  ∀ st, (s.tap a).post = some st →
    (t.station st).image.postDisplay = 64 + 16 * (s.tap a).tapIndex.val + condition ∧
    ((t.tap a).state ≠ (s.tap a).state →
      (t.station st).image.taps[(s.tap a).tapIndex] = decide ((t.tap a).state = .open))

/-- In `t` the reader of gate `g` shows the gate's lock and display code (R72, R159). -/
def State.ShowsGate (t : State) (g : PontoonId) : Prop :=
  ∀ st, (t.gate g).reader = some st →
    (t.station st).image.lock = (t.gate g).lock ∧ (t.station st).image.gateDisplay = (t.gate g).display

/-- In `t` the image of a dispenser's station carries these fields (R72, R137). -/
def State.ShowsSale (t : State) (st : StationId) (enable : Bool) (preset price : Nat) (stop : Bool) : Prop :=
  (t.station st).image.enable = enable ∧ (t.station st).image.preset = preset ∧ (t.station st).image.price = price ∧
  (t.station st).image.stop = stop

/-- Outlet `o` stands in `t` where its permit in `s` has put it: PLUGGED with the reason of a refusal, SHED, or, where it passed,
QUEUED or by now STARTING (R90, R93). -/
structure State.Evaluated (t s : State) (o : OutletId) : Prop where
  refused : ∀ r, permit s o = .refused r → (t.outlet o).state = .plugged ∧ (t.outlet o).reason = some r
  shed    : permit s o = .shed → (t.outlet o).state = .shed
  passed  : ∀ y, permit s o = .passed y → (t.outlet o).state = .queued ∨ (t.outlet o).state = .starting

/-- The post shows the outcome of the permit (R87). -/
structure State.ShowsPermit (t s : State) (o : OutletId) : Prop where
  refused  : ∀ r, permit s o = .refused r → t.Shows s o false 0 (r.ctorIdx + 1)
  shed     : permit s o = .shed → t.Shows s o false 0 9
  queued   : ∀ y, permit s o = .passed y → (t.outlet o).state = .queued → t.Shows s o false 0 5
  starting : ∀ y, permit s o = .passed y → (t.outlet o).state = .starting →
               t.Shows s o true (limitCode (t.outlet o).granted) 6

/-- The other PLUGGED, SHED and QUEUED outlets of the berth of outlet `o` are evaluated (R91). -/
def State.MatesEvaluated (t s : State) (o : OutletId) : Prop :=
  ∀ q w, q ≠ o → (s.outlet o).berth = some w → (s.outlet q).berth = some w →
    (s.outlet q).state ∈ [.plugged, .shed, .queued] → t.Evaluated s q

/-- Outlet `o` comes back with its plug present: its own permit decides and is shown, and the PLUGGED, SHED and QUEUED outlets of
its berth are evaluated with it (R91). -/
structure State.BerthEvaluated (t s : State) (o : OutletId) : Prop where
  self  : t.Evaluated s o
  shown : t.ShowsPermit s o
  mates : t.MatesEvaluated s o

/-- Outlet `o` stands in `t` in a state without a grant, out of the start slots, its final reading reported to the Register (R92,
R106). -/
structure State.ReleasedTo (t s : State) (o : OutletId) (x : OutletState) : Prop where
  state : (t.outlet o).state = x
  grant : (t.outlet o).granted = 0 ∧ (t.outlet o).grantPontoon = none ∧ (t.outlet o).limited = false
  slots : ∀ p, (t.start p).slot ≠ some o
  read  : ∀ w, (s.outlet o).berth = some w → ∀ r ∈ (t.berth w).outstanding, r.item ≠ .outlet o

/-! ### What an event keeps -/

/-- The parts of the state that a frame names. Whether a signal line is asserted and its stretch timer stand apart: the lines
follow their sources at the end of every event (R188, `State.LinesFollow`). -/
inductive Block where
  | pending | part | answers | desk | notices | settings | clock | register | engine | ledger | link | power | water | fuel
  | access | inputs | signals
  deriving DecidableEq, Repr

/-- A block is the same in two states. The answers are those owed and the kept request; the desk is the node address, cursor,
mode, cause and promised start; the link is its branches, stations and filter; the signals are the settings of both lines. -/
def Block.Same (t s : State) : Block → Prop
  | .pending => t.pending = s.pending
  | .part => t.part = s.part
  | .answers => t.trunk.owed = s.trunk.owed ∧ t.trunk.kept = s.trunk.kept
  | .desk => t.trunk.node = s.trunk.node ∧ t.trunk.cursor = s.trunk.cursor ∧ t.trunk.mode = s.trunk.mode ∧
      t.trunk.cause = s.trunk.cause ∧ t.trunk.commandStart = s.trunk.commandStart
  | .notices => t.trunk.notices = s.trunk.notices ∧ t.trunk.lost = s.trunk.lost
  | .settings => t.settings = s.settings
  | .clock => t.clock = s.clock
  | .register => t.register = s.register
  | .engine => t.engine = s.engine
  | .ledger => t.ledger = s.ledger
  | .link => t.link.branches = s.link.branches ∧ t.link.stations = s.link.stations ∧ t.link.filter = s.link.filter
  | .power => t.power = s.power
  | .water => t.water = s.water
  | .fuel => t.fuel = s.fuel
  | .access => t.access = s.access
  | .inputs => t.lines.fire = s.lines.fire ∧ t.lines.estop = s.lines.estop
  | .signals => ∀ i : Fin 2, (t.signal i).mask = (s.signal i).mask ∧ (t.signal i).enable = (s.signal i).enable ∧
      (t.signal i).polarity = (s.signal i).polarity ∧ (t.signal i).stretch = (s.signal i).stretch

/-- Every block. -/
def Block.every : List Block :=
  [.pending, .part, .answers, .desk, .notices, .settings, .clock, .register, .engine, .ledger, .link, .power, .water, .fuel,
   .access, .inputs, .signals]

/-- `t` keeps the named blocks of `s`. -/
def State.Keeps (t s : State) (bs : List Block) : Prop := ∀ b ∈ bs, b.Same t s

/-- `t` keeps every block of `s` but the named ones. -/
def State.KeepsBut (t s : State) (bs : List Block) : Prop := t.Keeps s (Block.every.filter (fun b => !bs.contains b))

/-- The request `c` with header `h` and `code` is refused in `s`: the refusal is owed and kept, and every other block stands
as it stood (R174). -/
def State.Refuses (s : State) (c : Instr) (h : ReqHeader) (code : Nat) (r : Reason) (detail : Nat) : Prop :=
  ∃ t, exec c s = .next t ∧ t.Replies s h code (.refused r detail) ∧ t.KeepsBut s [.answers]

/-! ### Stays, their credentials and passages, and the ids that requests name (R8, R157, R170, R195) -/

/-- The arrivals list stands in the order of R8: by arrival time, and equal times by stay id. -/
def State.ArrivalsOrdered (s : State) : Prop :=
  s.arrivals.Pairwise (fun y z => (s.stay y).settings.arrival < (s.stay z).settings.arrival ∨
    ((s.stay y).settings.arrival = (s.stay z).settings.arrival ∧ y < z))

/-- A guest credential at the end of its stay: EXIT_ONLY without a stay, with an exit expiry at the exit grace after the clock
value, and with none while the clock is unset (R157). -/
def State.exitOnly (s : State) (c : Credential) : Credential :=
  { c with state := .exitOnly, stay := none, expiryMet := false,
           exitExpiry := if s.clock.isSet then some (s.clock.value + s.settings.exitGrace * 60) else none }

/-- The end of stay `y`, from `s` to `t`: its ACTIVE and SUSPENDED guest credentials are EXIT_ONLY, and every other credential
stands (R157). -/
def State.GuestsEnded (t s : State) (y : StayId) : Prop :=
  ∀ i, t.credential i = (s.credential i).map (fun c => if c.guestOf y then s.exitOnly c else c)

/-- The pending passages of `l`, each with its gate, are gone to VOID records, written in their order from the log's next position
on; every other record stands (R166, R168, R170). -/
structure State.Voided (t s : State) (l : List (PontoonId × Passage)) : Prop where
  records : l.length ≤ 128 → s.access.nextSequence < 65536 → ∀ (k : Nat) (g : PontoonId) (x : Passage),
    l[k]? = some (g, x) →
    t.access.log[s.access.nextPosition + Fin.ofNat 128 k] = some
      { sequence := (s.access.nextSequence + k) % 65536, time := s.stamp, gate := g, number := x.credential.map (·.2),
        direction := x.direction, result := .void, headcount := (s.gate g).headcount }
  others  : ∀ j : Fin 128, (∀ k, k < l.length → j ≠ s.access.nextPosition + Fin.ofNat 128 k) →
    t.access.log[j] = s.access.log[j]
  next    : t.access.nextPosition = s.access.nextPosition + Fin.ofNat 128 l.length

/-- How many ids the first number of a request's payload may name, for the codes whose payload begins with the id of a
record (R195). -/
def idLimit : Nat → Option Nat
  | 0x11 => some 256
  | 0x12 => some 256
  | 0x13 => some 256
  | 0x14 => some 256
  | 0x15 => some 256
  | 0x16 => some 256
  | 0x17 => some 256
  | 0x18 => some 240
  | 0x19 => some 240
  | 0x1A => some 256
  | 0x20 => some 512
  | 0x21 => some 512
  | 0x22 => some 512
  | 0x23 => some 512
  | 0x24 => some 512
  | 0x25 => some 512
  | 0x26 => some 512
  | 0x27 => some 512
  | 0x28 => some 16
  | 0x30 => some 192
  | 0x31 => some 192
  | 0x32 => some 192
  | 0x38 => some 12
  | 0x39 => some 12
  | 0x3C => some 128
  | 0x3D => some 128
  | 0x40 => some 4
  | 0x41 => some 4
  | 0x42 => some 4
  | 0x43 => some 4
  | 0x44 => some 2
  | 0x45 => some 2
  | 0x52 => some 12
  | 0x53 => some 12
  | _ => none

/-- Whether FEEDER_STATE with a pontoon and a cause stands in the upward queue (R111). -/
def State.notesFeeder (t : State) (p : PontoonId) (cause : FeederCause) : Bool :=
  t.trunk.notices.any (fun n => match n.note with
    | .feederState q _ c _ => decide (q = p) && decide (c = cause)
    | _ => false)

/-! ### Accounts after a charge or a change (R41, R42, R55) -/

/-- An account after the evaluation of its flags: EXHAUSTED is set below 0 and cleared at the restore margin (R41), LOW is set
below its threshold and cleared at threshold plus margin (R42). -/
def Account.evaluated (x : Account) : Account :=
  { x with
    exhausted := if x.exhausted then decide (x.available < x.restoreMargin) else decide (x.available < 0)
    low := if x.low then decide (x.available < x.lowThreshold + x.restoreMargin)
           else decide (x.available < x.lowThreshold) }

/-- An account after a charge of `q` units at the effective price `price`: whole cents leave the balance, which stops at its
floor with SATURATED set, and the rest stays in the service's residue (R55, R57, R47); then the flags are evaluated. -/
def Account.charged (x : Account) (v : Service) (q price : Nat) : Account :=
  if q = 0 then x
  else
    let points := q * price + x.residue v
    let cents := points / 10000
    Account.evaluated
      { x.withResidue v (points % 10000) with
        balance := max (x.balance - cents) (-99999999)
        saturated := x.saturated || decide (x.balance - cents < -99999999) }

/-! ### Starts (R191, R192) -/

/-- What a restart leaves of the ledger: the holds of AUTHORISED dispensers are gone, and of an account nothing changes but the
held total and the flags that such a release moves (R48, R61, R154). -/
structure State.LedgerRestarted (t s : State) : Prop where
  pass     : t.ledger.pass = none ∧ t.ledger.rolloverDay = s.ledger.rolloverDay ∧ t.ledger.tariff = s.ledger.tariff
  released : ∀ d, (s.dispenser d).state = .authorised → t.holdSlot (slotOf d) = none
  holds    : ∀ k, (∀ d, (s.dispenser d).state = .authorised → slotOf d ≠ k) → t.holdSlot k = s.holdSlot k
  accounts : ∀ a, t.account a = { s.account a with
               heldTotal := (t.account a).heldTotal, exhausted := (t.account a).exhausted, low := (t.account a).low }
  unheld   : ∀ a, (∀ d x, (s.dispenser d).state = .authorised → s.holdSlot (slotOf d) = some x → x.account ≠ a) →
               t.account a = s.account a

/-- What a restart leaves of the outlets and feeders: an outlet that was STARTING, ON or GRACE is RESYNC and keeps the
grant to be resumed; one that waits may be admitted or started, which clears its final owed (R94); the others keep their
states (R108). A feeder that was not NORMAL is RESTORING, or NORMAL where its program has no delay (R123). -/
structure State.PowerRestarted (t s : State) : Prop where
  resync   : ∀ o, (s.outlet o).state = .starting ∨ (s.outlet o).state = .on ∨ (s.outlet o).state = .grace →
               (t.outlet o).state = .resync ∧ (t.outlet o).granted = (s.outlet o).granted ∧
               (t.outlet o).grantPontoon = (s.outlet o).grantPontoon ∧ (t.outlet o).limited = (s.outlet o).limited
  kept     : ∀ o, (s.outlet o).state ∈ [.vacant, .tripped, .locked, .closing, .resync] →
               (t.outlet o).state = (s.outlet o).state ∧ (t.outlet o).target = (s.outlet o).target ∧
               (t.outlet o).granted = (s.outlet o).granted
  waiting  : ∀ o, (s.outlet o).state ∈ [.plugged, .queued, .shed] →
               (t.outlet o).state ∈ [.plugged, .queued, .shed, .starting]
  fields   : ∀ o, (t.outlet o).post = (s.outlet o).post ∧ (t.outlet o).socket = (s.outlet o).socket ∧
               (t.outlet o).rating = (s.outlet o).rating ∧ (t.outlet o).berth = (s.outlet o).berth ∧
               (t.outlet o).plugTaken = (s.outlet o).plugTaken ∧ (t.outlet o).baseline = (s.outlet o).baseline ∧
               (t.outlet o).finalOwed = ((s.outlet o).finalOwed && decide ((t.outlet o).state ≠ .starting)) ∧
               (t.outlet o).deglitch = 0 ∧
               (t.outlet o).graceTimer = none ∧ (t.outlet o).overLimit = 0 ∧ (t.outlet o).lastClear = none
  starts   : ∀ p, (t.start p).startTime = (s.start p).startTime ∧ (t.start p).startFactor = (s.start p).startFactor ∧
               (t.start p).upgrades = []
  programs : t.power.programs = s.power.programs
  normal   : ∀ p, (s.feeder p).state = .normal → t.feeder p =
               { s.feeder p with shedCause := none, position := none, stepTimer := none, lowCount := 0, overCount := 0,
                                 healthyCount := 0 }
  restored : ∀ p, (s.feeder p).state ≠ .normal →
               ((t.feeder p).state = .restoring ∨ (t.feeder p).state = .normal) ∧ (t.feeder p).shedCause = none ∧
               (t.feeder p).lowCount = 0 ∧ (t.feeder p).overCount = 0 ∧ (t.feeder p).healthyCount = 0

/-- What a restart leaves of the fuel dock: an AUTHORISED sale is gone, one delivering or settling is SETTLING with its offline
settle timer started afresh, and tanks and journal are kept (R148, R154). -/
structure State.FuelRestarted (t s : State) : Prop where
  journal    : t.fuel.journal = s.fuel.journal ∧ t.fuel.nextSale = s.fuel.nextSale ∧ t.fuel.tanks = s.fuel.tanks
  authorised : ∀ d, (s.dispenser d).state = .authorised →
                 (t.dispenser d).state = .idle ∧ (t.dispenser d).sale = none ∧ (t.dispenser d).nozzleTimer = none
  unsettled  : ∀ d, (s.dispenser d).state = .delivering ∨ (s.dispenser d).state = .settling →
                 t.dispenser d = { s.dispenser d with state := .settling, nozzleTimer := none, settleTimer := some 60000 }
  others     : ∀ d, (s.dispenser d).state.holdsSale = false →
                 t.dispenser d = { s.dispenser d with nozzleTimer := none, settleTimer := none }

/-- What a restart leaves of the gates: each in use is LOCKED without passages, its count UNRELIABLE where passages were pending,
every door is UNKNOWN, and credentials and log are kept (R171). -/
structure State.AccessRestarted (t s : State) : Prop where
  cards  : t.access.credentials = s.access.credentials ∧ t.access.officeRelease = false
  log    : t.access.log = s.access.log ∧ t.access.nextPosition = s.access.nextPosition ∧
             t.access.nextSequence = s.access.nextSequence
  inUse  : ∀ g, s.gateInUse g = true → t.gate g =
             { s.gate g with door := .unknown, heldTimer := none, passages := [], lock := .locked, display := 0,
                             unlockEnd := none, unreliable := (s.gate g).unreliable || !(s.gate g).passages.isEmpty }
  unused : ∀ g, s.gateInUse g = false → t.gate g = { s.gate g with door := .unknown, heldTimer := none }

/-- What a restart leaves of the branch ports: settings, event numbers and start-noted flags are kept, and each station and ring
starts afresh (R83). The attention list of a branch holds each served dispenser whose record is neither IDLE nor CLOSED (R154) and
each served post with an outlet STARTING or CLOSING or a tap OPEN (R77, R108, R132), and no reader (R171) and no feeder monitor
(R77). -/
structure State.LinkRestarted (t s : State) : Prop where
  branches : ∀ b, (t.branch b).rateCode = (s.branch b).rateCode ∧ (t.branch b).missLimit = (s.branch b).missLimit ∧
               (t.branch b).answerTimeout = (s.branch b).answerTimeout ∧ (t.branch b).ratio = (s.branch b).ratio ∧
               (t.branch b).activeRate = (s.branch b).rateCode ∧ (t.branch b).slotCount = 0 ∧
               (t.branch b).relayMark = false ∧ (t.branch b).relays = [] ∧ (t.branch b).exchange = none ∧
               (t.branch b).idleUntil = none
  stations : ∀ i, (t.station i).settings = (s.station i).settings ∧ (t.station i).miss = 0 ∧ (t.station i).skip = 0 ∧
               (t.station i).lastTaken = (s.station i).lastTaken ∧ (t.station i).startNoted = (s.station i).startNoted ∧
               (t.station i).state = if (s.station i).enabled && decide ((s.branch (s.station i).branch).rateCode ≠ 0)
                                     then .unknown else .unpolled
  attended : ∀ i, (s.station i).enabled = true → (s.branch (s.station i).branch).rateCode ≠ 0 →
               ((s.station i).kind = .dispenser → ∀ d, (t.dispenser d).station = some i → (t.dispenser d).state ≠ .idle →
                 (t.dispenser d).state ≠ .closed → i ∈ (t.branch (s.station i).branch).attention) ∧
               ((s.station i).kind = .post →
                 (∀ o, (t.outlet o).post = some i → (t.outlet o).state = .starting ∨ (t.outlet o).state = .closing →
                   i ∈ (t.branch (s.station i).branch).attention) ∧
                 ∀ a, (t.tap a).post = some i → (t.tap a).state = .open →
                   i ∈ (t.branch (s.station i).branch).attention)
  passed   : ∀ i b, (s.station i).kind = .gateReader ∨ (s.station i).kind = .feederMonitor →
               i ∉ (t.branch b).attention
  filter   : t.link.filter = s.link.filter

/-- What a restart of `s` with a cause, after `elapsed` seconds and with the strap as given, leaves: the trunk as at a start, the
mode by the strap, the clock moved on, and each block's retained records by its restart rule (R22, R37, R61, R83, R108, R123,
R132, R154, R171, R191). The taps stand where no release of a hold can newly find an account without credit (R41, R130,
`State.SalesSound`). That a start row carries seconds and strap is log entry 27. -/
structure State.Restarted (t s : State) (cause : RestartCause) (elapsed : Nat) (strapLow : Bool) : Prop where
  running  : t.part.condition = .running ∧ t.part.timeBase = 0
  mode     : t.trunk.mode = if strapLow then .setup else .run
  why      : t.trunk.cause = cause
  node     : t.trunk.node = s.settings.node
  answers  : t.trunk.owed = [] ∧ t.trunk.kept = none ∧ t.trunk.cursor = none
  promised : t.trunk.commandStart = .none
  noted    : ∃ n rest, t.trunk.notices = n :: rest ∧ n.note = .restarted cause
  clock    : t.clock.isSet = s.clock.isSet ∧ t.clock.rollover = s.clock.rollover ∧
               t.clock.value = if s.clock.isSet then min 4294967295 (s.clock.value + elapsed) else s.clock.value
  engine   : t.engine.queue = [] ∧ t.engine.scan = none ∧ t.engine.resubmit = 0
  stays    : t.register.stays = s.register.stays ∧ t.register.pontoons = s.register.pontoons ∧ t.arrivals = s.arrivals
  berths   : ∀ b, t.berth b =
               { s.berth b with outstanding := (s.berth b).outstanding.map (fun r => { r with endAt := 60000 }) }
  taps     : (∀ a, (s.account a).exhausted = false → 0 ≤ (s.account a).available) → ∀ a, t.tap a =
               { s.tap a with
                 leakCount := 0
                 runTimer := if (s.tap a).state = .open then some ((s.tap a).maxRun * 60000) else none }
  ledger   : t.LedgerRestarted s
  power    : t.PowerRestarted s
  fuel     : t.FuelRestarted s
  access   : t.AccessRestarted s
  link     : t.LinkRestarted s
  inputs   : t.lines.fire.taken = .unknown ∧ t.lines.estop.taken = .unknown
  signals  : Block.signals.Same t s
  settings : t.settings = s.settings ∧ t.pending = s.pending

/-- What a full clear leaves: every table at its full-clear values, the signal records among them, and the trunk as at a start
(R192). -/
structure State.Cleared (t s : State) (cause : RestartCause) (mode : PartMode) : Prop where
  running  : t.part.condition = .running ∧ t.part.timeBase = 0 ∧ t.part.retentionAgrees = true
  trunk    : t.trunk.mode = mode ∧ t.trunk.cause = cause ∧ t.trunk.node = 1 ∧ t.trunk.owed = [] ∧ t.trunk.kept = none ∧
               t.trunk.cursor = none ∧ t.trunk.commandStart = .none
  noted    : t.trunk.notices = [{ note := .restarted cause, time := 0 }] ∧ t.trunk.lost = false
  tables   : t.settings = State.reset.settings ∧ t.clock = State.reset.clock ∧ t.register = State.reset.register ∧
               t.engine = State.reset.engine ∧ t.ledger = State.reset.ledger ∧ t.power = State.reset.power ∧
               t.water = State.reset.water ∧ t.fuel = State.reset.fuel ∧ t.access = State.reset.access ∧
               t.link = State.reset.link
  signals  : ∀ i : Fin 2, t.signal i =
               { mask := 0, enable := false, polarity := .activeHigh, stretch := 0, asserted := false, timer := none }
  inputs   : t.lines.fire.taken = .unknown ∧ t.lines.estop.taken = .unknown
  waiting  : t.pending = s.pending

/-! ### What holds between events -/

/-- The upward queue holds at most 64 notices (R183), the clock stays within its range, an unset clock stands at 0 (R185), no
post stands as shown by the Water Service between events (R72; log entry 24), and the read cursor stands within its table with a
count of 1 to 4 (R178, R179). -/
def State.WithinBounds (s : State) : Prop :=
  s.trunk.notices.length ≤ Config.noticeLimit ∧ s.clock.value ≤ Config.clockMax ∧
  (s.clock.isSet = false → s.clock.value = 0) ∧ s.link.waterShown = [] ∧
  ∀ c, s.trunk.cursor = some c → c.position < c.table.size ∧ 1 ≤ c.count ∧ c.count ≤ 4

/-- A line of a running part that its demand calls for is asserted, and one that is asserted without a demand is held by its
stretch timer (R188). -/
def State.LinesFollow (s : State) : Prop :=
  s.part.condition = .running → ∀ i : Fin 2,
    ((s.signal i).demand s.sources = true → (s.signal i).asserted = true) ∧
    ((s.signal i).demand s.sources = false → (s.signal i).asserted = true → (s.signal i).timer.isSome = true)

/-- Every balance lies within 99,999,999 cents of 0 (R38). -/
def State.BalancesBounded (s : State) : Prop :=
  ∀ a : AccountId, -(Config.balanceBound : Int) ≤ (s.account a).balance ∧ (s.account a).balance ≤ Config.balanceBound

/-- The allocation request queue holds at most four entries and the resubmit count at most 240 (R25, R29). -/
def State.EngineBounded (s : State) : Prop :=
  s.engine.queue.length ≤ Config.allocationPlaces ∧ s.engine.resubmit ≤ Config.resubmitLimit

/-- Berths and stays are paired (R7): a HELD berth and an EXPECTED stay, an OCCUPIED berth and an ARRIVED stay, and a CLEARING
berth and its DEPARTING stay name each other. -/
structure State.Paired (s : State) : Prop where
  held      : ∀ b, (s.berth b).state = .held → ∃ y, (s.berth b).currentStay = some y ∧ (s.stay y).state = .expected ∧
                (s.stay y).berth = some b
  occupied  : ∀ b, (s.berth b).state = .occupied → ∃ y, (s.berth b).currentStay = some y ∧ (s.stay y).state = .arrived ∧
                (s.stay y).berth = some b
  expected  : ∀ y b, (s.stay y).state = .expected → (s.stay y).berth = some b →
                (s.berth b).state = .held ∧ (s.berth b).currentStay = some y
  arrived   : ∀ y, (s.stay y).state = .arrived → ∃ b, (s.stay y).berth = some b ∧ (s.berth b).state = .occupied ∧
                (s.berth b).currentStay = some y
  departing : ∀ y, (s.stay y).state = .departing → ∃ b, (s.stay y).berth = some b ∧ (s.berth b).state = .clearing ∧
                (s.berth b).departingStay = some y
  clearing  : ∀ b y, (s.berth b).departingStay = some y → (s.berth b).state = .clearing ∧ (s.stay y).state = .departing ∧
                (s.stay y).berth = some b

/-- The Register and the Fit Engine hold together: berths and stays are paired (R7); the arrivals list holds exactly the EXPECTED
stays without a berth, once each and in their order (R8); the engine's entries are such stays, once each, and a scan has its
subject (R25, R27, R35); and no pontoon's committed amps exceed its commit limit (R2). -/
structure State.RegisterSound (s : State) : Prop where
  paired    : s.Paired
  listed    : ∀ y, y ∈ s.arrivals ↔ (s.stay y).state = .expected ∧ (s.stay y).berth = none
  ordered   : s.ArrivalsOrdered
  queued    : (∀ e ∈ s.engine.queue, e.stay ∈ s.arrivals) ∧ (s.engine.queue.map (·.stay)).Nodup
  scanned   : s.engine.scan.isSome = true → s.engine.queue ≠ []
  committed : ∀ p, s.committedAmps p ≤ (s.pontoon p).commitLimit

/-- Holds and sales hold together: a dispenser has a sale exactly in the states that hold one, and its hold slot is filled exactly
then (R142), for that dispenser and without an expiry (R48, R51); every held total is the sum of the holds that name the account
(R48); an account that is not EXHAUSTED has no available credit below 0 (R41); and journal and open sales fit the journal's 32
places (R140). -/
structure State.SalesSound (s : State) : Prop where
  sale    : ∀ d, (s.dispenser d).sale.isSome = (s.dispenser d).state.holdsSale
  slot    : ∀ d, (s.holdSlot (slotOf d)).isSome = (s.dispenser d).state.holdsSale
  owned   : ∀ d x, s.holdSlot (slotOf d) = some x → x.owner = .dispenser d ∧ x.expiry = none ∧ x.expiryMet = false
  held    : ∀ a, (s.account a).heldTotal =
              (s.ledger.holds.toList.map (fun h => match h with
                | some x => if x.account = a then x.amount else 0
                | none => 0)).sum
  credit  : ∀ a, (s.account a).exhausted = false → 0 ≤ (s.account a).available
  journal : s.fuel.journal.length + s.salesOpen ≤ 32

/-- The grants hold together: the grants counted on a pontoon fit its capacity less its reserve (R92); a start queue holds QUEUED
outlets, none twice and none in two queues; the start slot is held by exactly the pontoon's STARTING outlet, so at most one
outlet of a pontoon is STARTING (R93); an upgrade list holds outlets that are STARTING, ON or GRACE with a grant of its pontoon
(R100); only an energised outlet has a grant, and the start and grace timers run in STARTING and GRACE alone (R87, R101). -/
structure State.PowerSound (s : State) : Prop where
  budget   : ∀ p, s.usedAmps p ≤ (s.pontoon p).capacity - (s.pontoon p).reserve
  queues   : ∀ p, (s.start p).queue.Nodup ∧ ∀ o ∈ (s.start p).queue, (s.outlet o).state = .queued
  apart    : ∀ p q o, o ∈ (s.start p).queue → o ∈ (s.start q).queue → p = q
  slots    : ∀ p o, (s.start p).slot = some o ↔ (s.outlet o).state = .starting ∧ (s.outlet o).grantPontoon = some p
  starting : ∀ o, (s.outlet o).state = .starting → (s.outlet o).grantPontoon.isSome = true
  upgrades : ∀ p, ∀ o ∈ (s.start p).upgrades, (s.outlet o).grantPontoon = some p ∧
               (s.outlet o).state ∈ [.starting, .on, .grace]
  granted  : ∀ o, (s.outlet o).grantPontoon.isSome = true → (s.outlet o).state.energised = true
  timers   : ∀ o, ((s.outlet o).startTimer.isSome = true → (s.outlet o).state = .starting) ∧
               ((s.outlet o).graceTimer.isSome = true → (s.outlet o).state = .grace)

end Sys2Proof.Machine
end

