-- ==== Sys2Proof/WellFormed.lean ====
section
/-! DEFINITION. Which commands can come over the wire: every field of a trunk telegram lies within its width and range (R172). The
meanings are total on ill-formed commands too; what a payload says is checked by the owners, not here. -/

namespace Sys2Proof

/-- A value of a field of `n` bytes. -/
def fits (n v : Nat) : Bool := decide (v < 256 ^ n)

/-- A trunk telegram's node, tag, length, check and number of payload characters (R172). -/
def ReqHeader.wellFormed (h : ReqHeader) (p : List Byte) : Bool :=
  decide (1 ≤ h.node) && decide (h.node ≤ 254) && fits 1 h.tag && decide (h.length ≤ 120) && fits 2 h.check &&
  decide (p.length ≤ 120)

/-- Whether a command can come over the wire. -/
def Instr.wellFormed : Instr → Bool
  | .trunkTelegramDiscarded _ => true
  | .requestRepeat h code p => h.wellFormed p && fits 1 code
  | .requestBusy h code p => h.wellFormed p && fits 1 code
  | .unknownCode h code p => h.wellFormed p && fits 1 code
  | .status h p => h.wellFormed p
  | .fetchNotice h p => h.wellFormed p
  | .readRecords h p => h.wellFormed p
  | .readNext h p => h.wellFormed p
  | .writeRecord h p => h.wellFormed p
  | .writeMarinaSettings h p => h.wellFormed (0 :: p)
  | .writePontoonRecord h p => h.wellFormed (0 :: p)
  | .writeBerthRecord h p => h.wellFormed (0 :: p)
  | .writeStayRecord h p => h.wellFormed (0 :: p)
  | .writeAccountRecord h p => h.wellFormed (0 :: p)
  | .writeTariffRecord h p => h.wellFormed (0 :: p)
  | .writeBranchRecord h p => h.wellFormed (0 :: p)
  | .writeStationRecord h p => h.wellFormed (0 :: p)
  | .writeFilterRecord h p => h.wellFormed (0 :: p)
  | .writeOutletRecord h p => h.wellFormed (0 :: p)
  | .writeStartRecord h p => h.wellFormed (0 :: p)
  | .writeProgramRecord h p => h.wellFormed (0 :: p)
  | .writeTapRecord h p => h.wellFormed (0 :: p)
  | .writeTankRecord h p => h.wellFormed (0 :: p)
  | .writeDispenserRecord h p => h.wellFormed (0 :: p)
  | .writeCredentialRecord h p => h.wellFormed (0 :: p)
  | .writeGateRecord h p => h.wellFormed (0 :: p)
  | .writeSignalRecord h p => h.wellFormed (0 :: p)
  | .createStay h p => h.wellFormed p
  | .assign h p => h.wellFormed p
  | .unassign h p => h.wellFormed p
  | .cancelStay h p => h.wellFormed p
  | .arrive h p => h.wellFormed p
  | .extend h p => h.wellFormed p
  | .depart h p => h.wellFormed p
  | .move h p => h.wellFormed p
  | .openBerth h p => h.wellFormed p
  | .closeBerth h p => h.wellFormed p
  | .allocate h p => h.wellFormed p
  | .stayLapse _ => true
  | .overstay _ => true
  | .finalReadTimeout _ _ => true
  | .leadSubmission => true
  | .resubmission => true
  | .scanStep => true
  | .attemptComplete => true
  | .openAccount h p => h.wellFormed p
  | .suspendAccount h p => h.wellFormed p
  | .resumeAccount h p => h.wellFormed p
  | .closeAccount h p => h.wellFormed p
  | .credit h p => h.wellFormed p
  | .debit h p => h.wellFormed p
  | .clearSaturated h p => h.wellFormed p
  | .hold h p => h.wellFormed p
  | .releaseHold h p => h.wellFormed p
  | .holdExpiry _ => true
  | .nightlyPassStart => true
  | .nightlyPassStep => true
  | .rolloverDone => true
  | .slotSelection _ => true
  | .ringIdleTimeout _ => true
  | .answerTimeout _ => true
  | .badReply _ _ => true
  | .relayAnswer _ _ => true
  | .postReport _ _ => true
  | .gateReaderReport _ _ => true
  | .dispenserReport _ _ => true
  | .feederMonitorReport _ _ => true
  | .relay h p => h.wellFormed p
  | .startTimerExpiry _ => true
  | .graceTimerExpiry _ => true
  | .resetOutlet h p => h.wellFormed p
  | .lockOutlet h p => h.wellFormed p
  | .unlockOutlet h p => h.wellFormed p
  | .shedFeeder h p => h.wellFormed p
  | .restoreFeeder h p => h.wellFormed p
  | .programStepTimer _ => true
  | .runTimerExpiry _ => true
  | .clearTap h p => h.wellFormed p
  | .lockTap h p => h.wellFormed p
  | .stock h p => h.wellFormed p
  | .setStock h p => h.wellFormed p
  | .openDispenser h p => h.wellFormed p
  | .closeDispenser h p => h.wellFormed p
  | .authorise h p => h.wellFormed p
  | .nozzleTimeout _ => true
  | .cancelSale h p => h.wellFormed p
  | .offlineSettleTimeout _ => true
  | .estopAsserted => true
  | .estopReleased => true
  | .readSale h p => h.wellFormed p
  | .dropSale h p => h.wellFormed p
  | .unlockTimerExpiry _ => true
  | .doorHeldTimeout _ => true
  | .clearGateAlarm h p => h.wellFormed p
  | .fireAsserted => true
  | .fireReleased => true
  | .releaseGates h p => h.wellFormed p
  | .secureGates h p => h.wellFormed p
  | .setHeadcount h p => h.wellFormed p
  | .exitOnlyExpiry _ => true
  | .clockAdvance => true
  | .setClock h p => h.wellFormed p
  | .stretchTimerExpiry _ => true
  | .run h p => h.wellFormed p
  | .restart h p => h.wellFormed p
  | .commandRestart elapsed _ => fits 4 elapsed
  | .clear h p => h.wellFormed p
  | .clearCommandFullClear => true
  | .powerUp _ elapsed _ => fits 4 elapsed
  | .resetAsserted => true
  | .resetReleased elapsed _ => fits 4 elapsed
  | .powerLoss _ => true
  | .answerSent => true
  | .replyBegin _ => true

end Sys2Proof
end

