-- ==== Sys2Proof/Certificates/Slice0/Obligations.lean ====
section
/-! DEFINITION. The statements for the provers. A statement about a request holds for every state in which the Trunk Port
hands it to its owner (`State.Takes`, and `State.Writes` for a record write) and for every payload `w` whose bytes read as
the operands that the statement names. It concludes that the command completes, what it answers (`State.Replies`), what it
changes, and that every other block of the state is kept (`State.KeepsBut`). -/

open Sys2Proof Sys2Proof.Machine

/-! ### The queue of commands, reset, the invariants -/

/-- A step takes the command at the front of the queue, with the queue's rest (log entry 2). -/
def Obligations.StepTakesFrontCommand : Prop :=
  ∀ (c : Instr) (rest : List Instr) (s : State), s.pending = c :: rest → step s = exec c { s with pending := rest }

/-- With no command waiting, a part that does not run stands still, and a running part lets a millisecond pass: the inputs
are sampled every 10 ms (R189), and the row of each thing that has fallen due joins the queue: a timer that has run out, a
deadline that a clock event has met (R185), a submission (R28, R29), a step or the end of the scan and of the nightly pass
(R30, R32, R60, R61), a port that has something to send (R78), a start that has been promised (R191, R192). Model's choices: that
this happens on an empty queue, and that a part that does not run then stands still (log entry 5); a timer is the instant at which
it runs out (log entry 6); the marks of the deadlines that a clock event has met, and the nightly pass without one (log entries 8
and 34); a port that idles after a pass without a poll has nothing to send (log entry 14); the row of a promised restart carries
0 seconds and the strap as last sampled (log entry 27). -/
def Obligations.EmptyQueueLetsTimePass : Prop :=
  ∀ s : State, s.pending = [] →
    (s.part.condition ≠ .running → step s = .next s) ∧
    (s.part.condition = .running → ∃ t, step s = .next t ∧
      t.part = { s.part with timeBase := s.now + 1 } ∧ t.KeepsBut s [.pending, .part, .inputs] ∧
      t.lines.signals = s.lines.signals ∧
      t.lines.fire = (if (s.now + 1) % 10 = 0 then { s.lines.fire with lastSample := some s.lines.fire.pinLow }
                      else s.lines.fire) ∧
      t.lines.estop = (if (s.now + 1) % 10 = 0 then { s.lines.estop with lastSample := some s.lines.estop.pinLow }
                       else s.lines.estop) ∧
      ((s.now + 1) % 10 = 0 → s.lines.fire.lastSample = some s.lines.fire.pinLow →
        (s.lines.fire.pinLow = true → s.lines.fire.taken ≠ .asserted → .fireAsserted ∈ t.pending) ∧
        (s.lines.fire.pinLow = false → s.lines.fire.taken ≠ .released → .fireReleased ∈ t.pending)) ∧
      ((s.now + 1) % 10 = 0 → s.lines.estop.lastSample = some s.lines.estop.pinLow →
        (s.lines.estop.pinLow = true → s.lines.estop.taken ≠ .asserted → .estopAsserted ∈ t.pending) ∧
        (s.lines.estop.pinLow = false → s.lines.estop.taken ≠ .released → .estopReleased ∈ t.pending)) ∧
      (∀ b, ∀ r ∈ (s.berth b).outstanding, r.endAt ≤ s.now + 1 → .finalReadTimeout b r.item ∈ t.pending) ∧
      (∀ o e, (s.outlet o).startTimer = some e → e ≤ s.now + 1 → .startTimerExpiry o ∈ t.pending) ∧
      (∀ o e, (s.outlet o).graceTimer = some e → e ≤ s.now + 1 → .graceTimerExpiry o ∈ t.pending) ∧
      (∀ p e, (s.feeder p).stepTimer = some e → e ≤ s.now + 1 → .programStepTimer p ∈ t.pending) ∧
      (∀ a e, (s.tap a).runTimer = some e → e ≤ s.now + 1 → .runTimerExpiry a ∈ t.pending) ∧
      (∀ d e, (s.dispenser d).nozzleTimer = some e → e ≤ s.now + 1 → .nozzleTimeout d ∈ t.pending) ∧
      (∀ d e, (s.dispenser d).settleTimer = some e → e ≤ s.now + 1 → .offlineSettleTimeout d ∈ t.pending) ∧
      (∀ g e, (s.gate g).unlockEnd = some e → e ≤ s.now + 1 → .unlockTimerExpiry g ∈ t.pending) ∧
      (∀ g e, (s.gate g).heldTimer = some e → e ≤ s.now + 1 → .doorHeldTimeout g ∈ t.pending) ∧
      (∀ b x, (s.branch b).exchange = some x → x.replyBegun = false → x.timeoutAt ≤ s.now + 1 →
        .answerTimeout b ∈ t.pending) ∧
      (∀ b e, (s.branch b).idleUntil = some e → e ≤ s.now + 1 → .ringIdleTimeout b ∈ t.pending) ∧
      (∀ i e, (s.signal i).timer = some e → e ≤ s.now + 1 → .stretchTimerExpiry i ∈ t.pending) ∧
      (s.clock.isSet = true → s.clock.nextAdvance ≤ s.now + 1 → .clockAdvance ∈ t.pending) ∧
      (∀ y, (s.stay y).lapseMet = true → .stayLapse y ∈ t.pending) ∧
      (∀ y, (s.stay y).overstayMet = true → .overstay y ∈ t.pending) ∧
      (∀ k x, s.holdSlot k = some x → x.expiryMet = true → .holdExpiry k ∈ t.pending) ∧
      (∀ i c, s.credential i = some c → c.expiryMet = true → .exitOnlyExpiry i ∈ t.pending) ∧
      (s.engine.queue.length < 4 → s.engine.resubmit > 0 → .resubmission ∈ t.pending) ∧
      (∀ y, s.leadDue y = true → s.fitQueued y = true ∨ (s.engine.queue.length < 4 ∧ s.engine.resubmit = 0) →
        .leadSubmission ∈ t.pending) ∧
      (∀ x, s.engine.scan = some x → x.walked = false → .scanStep ∈ t.pending) ∧
      (∀ x, s.engine.scan = some x → x.walked = true → .attemptComplete ∈ t.pending) ∧
      (s.ledger.pass = none → s.passDue.isSome = true → .nightlyPassStart ∈ t.pending) ∧
      (∀ x, s.ledger.pass = some x → x.walked = false → .nightlyPassStep ∈ t.pending) ∧
      (∀ x, s.ledger.pass = some x → x.walked = true → .rolloverDone ∈ t.pending) ∧
      (∀ b, s.portReady b = true → .slotSelection b ∈ t.pending) ∧
      (s.trunk.commandStart = .restartDue → .commandRestart 0 s.part.setupStrapLow ∈ t.pending) ∧
      (s.trunk.commandStart = .clearDue → .clearCommandFullClear ∈ t.pending))

/-- A part in reset or without supply takes no event: every command but power-up, power loss and the two edges of RESET
leaves it as it is (R191; the choice of "no effect" is log entry 4). RESET pulled low holds a running part and its return
high starts a held one; the supply's loss stops the part and power-up starts it; an answered RESTART or CLEAR starts a
running part again, each start with its cause (R190, R191, R192). What the check at power-up finds is an operand of its row,
which is the model's choice (log entry 27). -/
def Obligations.HaltedPartTakesNoEvent : Prop :=
  (∀ (c : Instr) (s : State), s.part.condition ≠ .running →
    (∀ held e l, c ≠ .powerUp held e l) → (∀ b, c ≠ .powerLoss b) → c ≠ .resetAsserted → (∀ e l, c ≠ .resetReleased e l) →
    exec c s = .next s) ∧
  ∀ (s : State),
    (s.part.condition = .running → ∃ t, exec .resetAsserted s = .next t ∧ t.part.condition = .inReset ∧
      t.part.resetLow = true ∧ t.KeepsBut s [.part]) ∧
    (∀ elapsed low, s.part.condition = .inReset → ∃ t, exec (.resetReleased elapsed low) s = .next t ∧
      t.part.condition = .running ∧ t.part.resetLow = false ∧ t.trunk.cause = .resetLine) ∧
    (∀ cut, s.part.condition ≠ .unpowered → ∃ t, exec (.powerLoss cut) s = .next t ∧ t.part.condition = .unpowered ∧
      t.KeepsBut s [.part]) ∧
    (∀ held elapsed low, s.part.condition = .unpowered → s.part.resetLow = false →
      ∃ t, exec (.powerUp held elapsed low) s = .next t ∧ t.part.condition = .running ∧
        t.trunk.cause = (if held && s.part.retentionAgrees then .power else .retentionLost)) ∧
    (∀ elapsed low, s.part.condition = .running → s.trunk.commandStart = .restartDue →
      ∃ t, exec (.commandRestart elapsed low) s = .next t ∧ t.part.condition = .running ∧ t.trunk.cause = .command) ∧
    (s.part.condition = .running → s.trunk.commandStart = .clearDue →
      ∃ t, exec .clearCommandFullClear s = .next t ∧ t.part.condition = .running ∧ t.trunk.cause = .clearCommand ∧
        t.trunk.mode = .setup)

/-- The part right after reset: its tables at their full-clear values, with the start cause, mode and address that a part
that has never been loaded takes. That reset is this start is the model's choice (log entry 1), and so is the RESET line
being high (log entry 35). -/
def Obligations.ResetLeavesFullClearValues : Prop :=
  State.reset.pending = [] ∧ State.reset.part.condition = .running ∧ State.reset.part.resetLow = false ∧
  State.reset.trunk.mode = .run ∧
  State.reset.trunk.node = 1 ∧ State.reset.trunk.owed = [] ∧ State.reset.trunk.kept = none ∧
  State.reset.trunk.cursor = none ∧ State.reset.trunk.lost = false ∧
  State.reset.trunk.notices = [{ note := .restarted .retentionLost, time := 0 }] ∧
  State.reset.settings = { node := 1, lead := 12, keel := 3, exitGrace := 30, deglitch := 2, tripCount := 2,
                           graceTime := 15, leakThreshold := 5, staffAccount := none } ∧
  State.reset.clock.isSet = false ∧ State.reset.clock.value = 0 ∧ State.reset.clock.rollover = 43200 ∧
  (∀ p, State.reset.pontoon p =
    { gatePresent := false, capacity := 0, reserve := 0, commitLimit := 0, peopleCapacity := 255, passbackStrict := false,
      curfewStart := 0, curfewEnd := 0, curfewMode := 0, vf := 207, vr := 216 }) ∧
  (∀ b, State.reset.berth b =
    { pontoon := 0, maxLoa := 0, maxBeam := 0, depth := 0, outlets := [], tap := none, state := .free,
      currentStay := none, departingStay := none, outstanding := [], estimated := 0 }) ∧
  (∀ y, (State.reset.stay y).state = .empty ∧ (State.reset.stay y).berth = none) ∧ State.reset.arrivals = [] ∧
  State.reset.engine.queue = [] ∧ State.reset.engine.scan = none ∧ State.reset.engine.resubmit = 0 ∧
  (∀ y : StayId, State.reset.engine.leadMarks[y] = false) ∧
  (∀ a, State.reset.account a =
    { kind := .prepaid, creditLimit := 0, adjustment := 0, lowThreshold := 0, restoreMargin := 0, state := .closed,
      balance := 0, heldTotal := 0, exhausted := false, low := false, saturated := false, residuePower := 0,
      residueWater := 0, residueFuel := 0, residueBerth := 0 }) ∧
  (∀ k, State.reset.holdSlot k = none) ∧
  State.reset.ledger.tariff = { powerDay := 0, powerNight := 0, water := 0, fuel0 := 0, fuel1 := 0, berth := 0,
                                dayStart := 25200, dayEnd := 82800 } ∧
  State.reset.ledger.rolloverDay = none ∧ State.reset.ledger.pass = none ∧
  (∀ b, (State.reset.branch b).rateCode = 0 ∧ (State.reset.branch b).missLimit = 3 ∧
    (State.reset.branch b).answerTimeout = 10 ∧ (State.reset.branch b).ratio = 1 ∧
    (State.reset.branch b).attention = [] ∧ (State.reset.branch b).relays = []) ∧
  (∀ i, (State.reset.station i).kind = .none ∧ (State.reset.station i).enabled = false ∧
    (State.reset.station i).state = .unpolled ∧ (State.reset.station i).lastTaken = none) ∧
  (∀ k : Fin 4, State.reset.link.filter[k] =
    { query := .pass, config := .passNote, actuate := .blockNote, service := .block }) ∧
  (∀ o, (State.reset.outlet o).state = .vacant ∧ (State.reset.outlet o).rating = 16 ∧ (State.reset.outlet o).post = none ∧
    (State.reset.outlet o).socket = 0 ∧ (State.reset.outlet o).berth = none ∧ (State.reset.outlet o).granted = 0 ∧
    (State.reset.outlet o).baseline = none) ∧
  (∀ p, (State.reset.feeder p).state = .normal ∧ (State.reset.feeder p).admitted = 15) ∧
  (∀ p, State.reset.start p = { startTime := 5, startFactor := 200, slot := none, queue := [], upgrades := [] }) ∧
  (∀ k : Fin 2, (State.reset.power.programs[k].map (fun x => (x.delay, x.mask, x.endFlag))).toList =
    if k = 0 then [(0, 0b0111, false), (3, 0b0011, false), (4, 0b0001, true), (0, 0, false), (0, 0, false), (0, 0, false),
                   (0, 0, false), (0, 0, false)]
    else [(3, 0b0001, false), (5, 0b0011, false), (5, 0b0111, false), (5, 0b1111, true), (0, 0, false), (0, 0, false),
          (0, 0, false), (0, 0, false)]) ∧
  (∀ t, (State.reset.tap t).state = .closed ∧ (State.reset.tap t).maxRun = 30 ∧ (State.reset.tap t).post = none ∧
    (State.reset.tap t).berth = none ∧ (State.reset.tap t).baseline = none) ∧
  (∀ g, State.reset.tank g = { reserve := 0, lowStock := 0, stock := 0, lowFlag := false }) ∧
  (∀ d, (State.reset.dispenser d).state = .closed ∧ (State.reset.dispenser d).station = none ∧
    (State.reset.dispenser d).grade = 0 ∧ (State.reset.dispenser d).maxPreset = 10000 ∧
    (State.reset.dispenser d).tolerance = 20 ∧ (State.reset.dispenser d).nozzleTimeout = 120 ∧
    (State.reset.dispenser d).sale = none ∧ (State.reset.dispenser d).watch = none) ∧ State.reset.fuel.journal = [] ∧
  (∀ g, (State.reset.gate g).reader = none ∧ (State.reset.gate g).unlockTime = 5 ∧ (State.reset.gate g).heldLimit = 60 ∧
    (State.reset.gate g).forced = false ∧ (State.reset.gate g).headcount = 0 ∧ (State.reset.gate g).unreliable = false) ∧
  (∀ i, State.reset.credential i = none) ∧ State.reset.access.officeRelease = false ∧
  (∀ k : Fin 128, State.reset.access.log[k] = none) ∧
  (∀ i, State.reset.signal i =
    { mask := 0, enable := false, polarity := .activeHigh, stretch := 0, asserted := false, timer := none }) ∧
  State.reset.lines.fire.taken = .unknown ∧ State.reset.lines.estop.taken = .unknown

/-- The invariants hold right after reset. -/
def Obligations.InvariantsHoldAtReset : Prop :=
  State.reset.WithinBounds ∧ State.reset.LinesFollow ∧ State.reset.BalancesBounded ∧ State.reset.EngineBounded ∧
  State.reset.RegisterSound ∧ State.reset.SalesSound ∧ State.reset.PowerSound

/-- Every step keeps the upward queue within 64 notices (R183), the clock within its range, an unset clock at 0 (R185), no post as
shown by the Water Service between events (R72), and the cursor at a record of its table with a count of 1 to 4 (R178). That a code
of the Water Service stands for the rest of its event, and is so noted, is the model's choice (log entry 24). -/
def Obligations.EveryStepKeepsQueueAndClockBounds : Prop :=
  ∀ s t : State, s.WithinBounds → step s = .next t → t.WithinBounds

/-- After every step of a running part each signal line follows its demand (R188). -/
def Obligations.EveryStepKeepsSignalLinesFollowing : Prop :=
  ∀ s t : State, s.LinesFollow → step s = .next t → t.LinesFollow

/-- Every step keeps every balance within 99,999,999 cents of 0 (R38). -/
def Obligations.EveryStepKeepsBalancesBounded : Prop :=
  ∀ s t : State, s.BalancesBounded → step s = .next t → t.BalancesBounded

/-- Every step keeps the request queue within four entries and the resubmit count within 240 (R25, R29). -/
def Obligations.EveryStepKeepsEngineBounded : Prop :=
  ∀ s t : State, s.EngineBounded → step s = .next t → t.EngineBounded

/-- A REFUSED answer changes nothing (R174): but for the answers, every block stands. With reason CLOCK_UNSET the use of the
unset clock is noted (R187), and with reason BLOCKED a notice may be raised (R181). -/
def Obligations.RefusalChangesNothing : Prop :=
  ∀ (c : Instr) (s t : State) (a : Answer) (r : Reason) (d : Nat),
    s.trunk.owed = [] → exec c s = .next t → t.trunk.owed = [a] → a.body = .refused r d →
    t.KeepsBut s [.answers, .notices, .clock] ∧ (r ≠ .clockUnset → r ≠ .blocked → t.KeepsBut s [.answers])

/-! ### The Trunk Port (R172 to R175, R195, R196) -/

/-- A telegram that is no good request is discarded without an answer, whichever row carries it (R172): one of kind
ANSWER, with another node, a wrong check, or a length that is not that of its payload. A code of no request is answered
UNKNOWN (R174), and a good request whose payload has not the length of its layout, or whose id lies outside its table, is
refused BAD_VALUE (R175, R195). -/
def Obligations.TelegramsThatReachNoOwner : Prop :=
  (∀ (s : State) (h : ReqHeader) (code : Nat) (w : List Byte), s.goodRequest h code w = true ↔
    h.node = s.trunk.node ∧ h.length = w.length ∧ h.check = (crc16 (requestBytes h code w)).toNat) ∧
  (∀ (bytes : List Byte) (s : State), s.part.condition = .running →
    (∀ h code w, readTelegram bytes = some (h, code, w) → s.goodRequest h code w = false) →
    ∃ t, exec (.trunkTelegramDiscarded bytes) s = .next t ∧ t.KeepsBut s []) ∧
  (∀ (c : Instr) (h : ReqHeader) (code : Nat) (w : List Byte) (s : State), s.part.condition = .running →
    s.goodRequest h code w = false →
    asked? c = some (h, code, w) ∨ c = .requestRepeat h code w ∨ c = .requestBusy h code w ∨ c = .unknownCode h code w →
    ∃ t, exec c s = .next t ∧ t.KeepsBut s []) ∧
  (∀ (s : State) (h : ReqHeader) (code : Nat) (w : List Byte), s.Hears h code w → knownCode code = false →
    ∃ t, exec (.unknownCode h code w) s = .next t ∧ t.Replies s h code .unknown ∧ t.KeepsBut s [.answers]) ∧
  (∀ (code : Nat) (w : List Byte), lengthFits code w = false ↔
    ∃ l, requestLength code = some l ∧ (w.length < l.1 ∨ l.2 < w.length)) ∧
  (∀ (c : Instr) (s : State) (h : ReqHeader) (code : Nat) (w : List Byte), asked? c = some (h, code, w) →
    s.Hears h code w → lengthFits code w = false → s.Refuses c h code .badValue 0) ∧
  (∀ (c : Instr) (s : State) (h : ReqHeader) (code : Nat) (w : List Byte) (n : Nat), asked? c = some (h, code, w) →
    s.Takes h code w → idLimit code = some n → n ≤ rd w 0 2 → s.Refuses c h code .badValue 0)

/-- A request equal in tag, code, length and check to the kept one gets the kept answer and is not carried out again; so does
the row REQUEST_REPEAT. A request that comes while an answer is owed gets BUSY, is not kept and changes nothing else; so does
the row REQUEST_BUSY (R173); that the BUSY answer carries the node address in force when the request comes is the model's choice
(log entry 50). When the last character of an answer has gone, the next owed answer may go, a new node address takes effect
(R177), and a restart or full clear that the answer promised falls due (R191, R192). -/
def Obligations.RepeatBusyAndAnswerSent : Prop :=
  (∀ (s : State) (h : ReqHeader) (k : KeptRequest) (w : List Byte), s.part.condition = .running →
    s.goodRequest h k.code w = true → s.trunk.owed = [] → s.trunk.kept = some k → k.tag = h.tag → k.length = h.length →
    k.check = h.check →
    (∃ t, exec (.requestRepeat h k.code w) s = .next t ∧ t.trunk.owed = [k.answer] ∧ t.trunk.kept = some k ∧
      t.KeepsBut s [.answers]) ∧
    (∀ c, asked? c = some (h, k.code, w) → ∃ t, exec c s = .next t ∧ t.trunk.owed = [k.answer] ∧ t.trunk.kept = some k ∧
      t.KeepsBut s [.answers])) ∧
  (∀ (s : State) (h : ReqHeader) (code : Nat) (w : List Byte), s.part.condition = .running →
    s.goodRequest h code w = true → s.trunk.owed ≠ [] →
    (∃ t, exec (.requestBusy h code w) s = .next t ∧ t.trunk.owed = s.trunk.owed ++ [s.answer h .busy] ∧
      t.trunk.kept = s.trunk.kept ∧ t.KeepsBut s [.answers]) ∧
    (∀ c, asked? c = some (h, code, w) → ∃ t, exec c s = .next t ∧
      t.trunk.owed = s.trunk.owed ++ [s.answer h .busy] ∧ t.trunk.kept = s.trunk.kept ∧ t.KeepsBut s [.answers])) ∧
  (∀ (s : State) (a : Answer) (rest : List Answer), s.part.condition = .running → s.trunk.owed = a :: rest →
    ∃ t, exec .answerSent s = .next t ∧ t.trunk.owed = rest ∧ t.trunk.kept = s.trunk.kept ∧
      t.trunk.node = s.settings.node ∧ t.trunk.cursor = s.trunk.cursor ∧ t.trunk.mode = s.trunk.mode ∧
      t.trunk.cause = s.trunk.cause ∧
      (s.trunk.commandStart = .restartAsked → t.trunk.commandStart = .restartDue) ∧
      (s.trunk.commandStart = .clearAsked → t.trunk.commandStart = .clearDue) ∧
      (s.trunk.commandStart ≠ .restartAsked → s.trunk.commandStart ≠ .clearAsked →
        t.trunk.commandStart = s.trunk.commandStart) ∧
      t.KeepsBut s [.answers, .desk])

/-- The bytes of a well-formed request, built by R172, R195 and R196 and read as any received telegram, are that request:
header, code and payload come back, and what the part does with them is what the request's row does. The bytes of a
station's report and of a relay answer, built by R64, R194 and R196, are read back by the port that polled the station
with every field they carry. That the row of a discarded telegram carries bytes, which decide what it is, is the model's
choice (log entry 32). -/
def Obligations.TelegramBytesReachTheirOwner : Prop :=
  (∀ (c : Instr) (h : ReqHeader) (code : Nat) (w : List Byte) (s : State), c.wellFormed = true →
    asked? c = some (h, code, w) →
    readTelegram (requestTelegram h code w) = some (h, code, w) ∧
    exec (.trunkTelegramDiscarded (requestTelegram h code w)) s = exec c s) ∧
  (∀ (h : ReqHeader) (code : Nat) (w : List Byte) (s : State), (Instr.unknownCode h code w).wellFormed = true →
    knownCode code = false →
    exec (.trunkTelegramDiscarded (requestTelegram h code w)) s = exec (.unknownCode h code w) s) ∧
  (∀ ev : EventByte, eventOfByte (eventByteOf ev) = ev) ∧
  (∀ (x : Station) (ev : EventByte) (r : Report), x.address < 256 → r.fits x ev →
    x.goodReport (reportTelegram x.address ev r) = some (x.eventByte (eventByteOf ev), r)) ∧
  (∀ (address : Nat) (status : Byte) (payload : List Byte), address < 256 → payload.length ≤ 48 →
    replyParts address kindRelayAnswer (relayAnswerTelegram address status payload) = some (status, payload))

/-! ### The Management Handler (R176 to R184, R190) -/

/-- STATUS answers 30 bytes with mode, restart cause, clock, the count of notices, LOST, the feeders, the lines and the
counts of OFFLINE stations and EXHAUSTED accounts, and clears LOST (R176, R195); FETCH NOTICE answers the oldest notice
and removes it, or answers DONE with no notice (R184). RUN leaves SETUP mode, and in RUN mode it is refused STATE (R190);
RESTART promises a restart (R191); CLEAR promises a full clear in SETUP mode, and in RUN mode it is refused SETUP_ONLY
(R192). Model's choices: the clock-set flag and LOST of STATUS are a byte each, 1 for set (log entry 46); its line state follows
the rate code in effect (log entry 17); codings of a notice's values (log entry 19); a RESTART or CLEAR replaces a start promised
earlier (log entry 57). -/
def Obligations.StatusNoticesAndPartMode : Prop :=
  ∀ (s : State) (h : ReqHeader) (w : List Byte),
    (s.Takes h 0x01 w → s.WithinBounds →
      ∃ t p, exec (.status h w) s = .next t ∧ t.Replies s h 0x01 (.done p) ∧ p.length = 30 ∧
        rd p 0 1 = s.trunk.mode.ctorIdx ∧ rd p 1 1 = s.trunk.cause.ctorIdx ∧
        yesNo (rd p 2 1) = some s.clock.isSet ∧ rd p 3 4 = s.stamp ∧ rd p 7 1 = s.trunk.notices.length ∧
        yesNo (rd p 8 1) = some s.trunk.lost ∧
        (∀ q : PontoonId, rd p (9 + q.val) 1 = (s.feeder q).state.ctorIdx) ∧
        (∀ b : BranchId, rd p (21 + b.val) 1 = (s.lineState b).ctorIdx) ∧ rd p 27 1 = s.offlineCount ∧
        rd p 28 2 = s.exhaustedCount ∧
        t.trunk.lost = false ∧ t.trunk.notices = s.trunk.notices ∧ t.KeepsBut s [.answers, .notices]) ∧
    (∀ n rest, s.Takes h 0x02 w → s.trunk.notices = n :: rest → ∃ t, exec (.fetchNotice h w) s = .next t ∧
      t.Replies s h 0x02 (.done n.coded) ∧ t.trunk.notices = rest ∧ t.trunk.lost = s.trunk.lost ∧
      t.KeepsBut s [.answers, .notices]) ∧
    (s.Takes h 0x02 w → s.trunk.notices = [] → ∃ t, exec (.fetchNotice h w) s = .next t ∧ t.Replies s h 0x02 (.done []) ∧
      t.KeepsBut s [.answers]) ∧
    (s.Takes h 0x61 w → s.trunk.mode = .setup → ∃ t, exec (.run h w) s = .next t ∧ t.Replies s h 0x61 (.done []) ∧
      t.trunk.mode = .run ∧ t.trunk.node = s.trunk.node ∧ t.trunk.cursor = s.trunk.cursor ∧
      t.trunk.cause = s.trunk.cause ∧ t.trunk.commandStart = s.trunk.commandStart ∧
      (∀ b, (s.branch b).activeRate ≠ 0 → (t.branch b).ringPosition = ((s.ring b).head?).map (·.1) ∧
        (t.branch b).slotCount = 0) ∧
      t.link.stations = s.link.stations ∧ t.KeepsBut s [.answers, .desk, .link]) ∧
    (s.Takes h 0x61 w → s.trunk.mode = .run → s.Refuses (.run h w) h 0x61 .state 0) ∧
    (s.Takes h 0x62 w → ∃ t, exec (.restart h w) s = .next t ∧ t.Replies s h 0x62 (.done []) ∧
      t.trunk.commandStart = .restartAsked ∧ t.trunk.mode = s.trunk.mode ∧ t.trunk.node = s.trunk.node ∧
      t.trunk.cursor = s.trunk.cursor ∧ t.trunk.cause = s.trunk.cause ∧ t.KeepsBut s [.answers, .desk]) ∧
    (s.Takes h 0x63 w → s.trunk.mode = .setup → ∃ t, exec (.clear h w) s = .next t ∧ t.Replies s h 0x63 (.done []) ∧
      t.trunk.commandStart = .clearAsked ∧ t.trunk.mode = .setup ∧ t.trunk.node = s.trunk.node ∧
      t.trunk.cursor = s.trunk.cursor ∧ t.trunk.cause = s.trunk.cause ∧ t.KeepsBut s [.answers, .desk]) ∧
    (s.Takes h 0x63 w → s.trunk.mode = .run → s.Refuses (.clear h w) h 0x63 .setupOnly 0)

/-- READ RECORDS opens the cursor and answers as READ NEXT would; READ NEXT answers table, first index, number and
records, at least one and as many whole records as fit, each as it stands behind its presence byte, and moves the cursor
past them, back to 0 after the last record of the table (R178, R179, R193). A table, start or count out of range is
refused BAD_VALUE with the cursor as it was, and READ NEXT without a cursor STATE. Only a hold slot, a credential slot and
a log position can be empty: that an EMPTY stay is sent in full is the model's choice (log entry 45). -/
def Obligations.RecordWindowMovesPastTheRecordsRead : Prop :=
  let window (s : State) (tb : TableName) (start count k : Nat) (bytes : List Byte) : Prop :=
    bytes = (List.range k).flatMap (fun j => slotBytes (readRecord s tb (start + j))) ∧ bytes.length ≤ 116 ∧
    1 ≤ k ∧ k ≤ count ∧ start + k ≤ tb.size ∧
    (k < count → start + k < tb.size → 116 < bytes.length + (slotBytes (readRecord s tb (start + k))).length)
  let moved (t s : State) (tb : TableName) (start count k : Nat) : Prop :=
    t.trunk.cursor = some { table := tb, position := if start + k < tb.size then start + k else 0, count := count } ∧
    t.trunk.node = s.trunk.node ∧ t.trunk.mode = s.trunk.mode ∧ t.trunk.cause = s.trunk.cause ∧
    t.trunk.commandStart = s.trunk.commandStart ∧ t.KeepsBut s [.answers, .desk]
  (∀ (s : State) (h : ReqHeader) (w : List Byte) (tb : TableName), s.Takes h 0x03 w → TableName.ofCode (rd w 0 1) = some tb →
    rd w 1 2 < tb.size → 1 ≤ rd w 3 1 → rd w 3 1 ≤ 4 →
    ∃ t k bytes, exec (.readRecords h w) s = .next t ∧ window s tb (rd w 1 2) (rd w 3 1) k bytes ∧
      t.Replies s h 0x03 (.done (le 1 tb.ctorIdx ++ le 2 (rd w 1 2) ++ le 1 k ++ bytes)) ∧
      moved t s tb (rd w 1 2) (rd w 3 1) k) ∧
  (∀ (s : State) (h : ReqHeader) (w : List Byte), s.Takes h 0x03 w →
    TableName.ofCode (rd w 0 1) = none ∨ (∃ tb, TableName.ofCode (rd w 0 1) = some tb ∧ tb.size ≤ rd w 1 2) ∨
      rd w 3 1 = 0 ∨ 4 < rd w 3 1 →
    s.Refuses (.readRecords h w) h 0x03 .badValue 0) ∧
  (∀ (s : State) (h : ReqHeader) (w : List Byte) (c : Cursor), s.Takes h 0x04 w → s.trunk.cursor = some c → s.WithinBounds →
    ∃ t k bytes, exec (.readNext h w) s = .next t ∧ window s c.table c.position c.count k bytes ∧
      t.Replies s h 0x04 (.done (le 1 c.table.ctorIdx ++ le 2 c.position ++ le 1 k ++ bytes)) ∧
      moved t s c.table c.position c.count k) ∧
  (∀ (s : State) (h : ReqHeader) (w : List Byte), s.Takes h 0x04 w → s.trunk.cursor = none →
    s.Refuses (.readNext h w) h 0x04 .state 0) ∧
  (∀ (s : State) (tb : TableName) (i : Nat), i < tb.size → tb ∉ [.hold, .credential, .passageLog] →
    (readRecord s tb i).isSome = true) ∧
  (∀ (s : State) (k : HoldSlot), readRecord s .hold k.val = (s.holdSlot k).map HoldRecord.coded) ∧
  (∀ (s : State) (i : CredentialSlot), readRecord s .credential i.val = (s.credential i).map Credential.coded) ∧
  (∀ (s : State) (k : Fin 128), readRecord s .passageLog k.val = (s.access.log[k]).map PassageRecord.coded) ∧
  slotBytes none = [0] ∧ (∀ r, slotBytes (some r) = 1 :: r)

/-- WRITE RECORD does what the row of its table does with the same bytes; a table or an index out of range, a record of
another length, and a record with a field out of its range are refused BAD_VALUE and change nothing, and a table marked
refused STATE (R174, R178, R180). What an accepted write has written is read back: the record that the table then holds
gives the settings that the write carried, in the table's layout (R193). The model's own: the general row does what the row of its
table does with the bytes behind the first, and a table marked refused is STATE whatever the record's length (log entry 12); in the
layouts and ranges, the codings that R193 leaves open, a berth's outlet list with a gap among them (log entry 19), AUTO_ARRIVE and
END as yes/no fields (log entry 36), and a signal record's master enable as one (log entry 46). -/
def Obligations.WriteRecordIsTheRowOfItsTable : Prop :=
  (∀ (s : State) (h : ReqHeader) (tb : TableName) (w : List Byte) (c : Instr), tb.row h w = some c →
    exec (.writeRecord h (BitVec.ofNat 8 tb.ctorIdx :: w)) s = exec c s) ∧
  (∀ (s : State) (h : ReqHeader) (tb : TableName) (w : List Byte) (i : Nat) (c : Instr), s.Writes h tb w i → i < tb.size →
    tb.row h w = some c →
    ∃ t, exec (.writeRecord h (BitVec.ofNat 8 tb.ctorIdx :: w)) s = .next t ∧ exec c s = .next t ∧
      (t.Replies s h 0x05 (.done []) → ∀ r, readRecord t tb i = some r → tb.agrees r (w.drop 2))) ∧
  (∀ (s : State) (h : ReqHeader) (tb : TableName) (w : List Byte) (i : Nat) (c : Instr), s.Writes h tb w i → i < tb.size →
    tb.row h w = some c → s.writable tb i → ¬ tb.admits (w.drop 2) → s.Refuses c h 0x05 .badValue 0) ∧
  (∀ (s : State) (h : ReqHeader) (w : List Byte) (tb : TableName), s.Takes h 0x05 w → TableName.ofCode (rd w 0 1) = some tb →
    tb.writeLength = none → rd w 1 2 < tb.size → s.Refuses (.writeRecord h w) h 0x05 .state 0) ∧
  (∀ (s : State) (h : ReqHeader) (w : List Byte), s.Takes h 0x05 w →
    TableName.ofCode (rd w 0 1) = none ∨
      (∃ tb, TableName.ofCode (rd w 0 1) = some tb ∧
        (tb.size ≤ rd w 1 2 ∨ ∃ n, tb.writeLength = some n ∧ w.length ≠ n + 3)) →
    s.Refuses (.writeRecord h w) h 0x05 .badValue 0)

/-! ### The grants of the Shore Power Unit (R92, R93, R100) -/

/-- Every step keeps the grants within the budget of each pontoon (R92), its start queue without duplicates, at most one
outlet STARTING behind its start slot (R93), and its upgrade list of outlets with a grant of it (R100). -/
def Obligations.EveryStepKeepsPowerSound : Prop :=
  ∀ s t : State, s.PowerSound → step s = .next t → t.PowerSound

/-! ### Record writes of settings (R53, R86, R119, R177, R181, R188) -/

/-- The check of a write accepts exactly the ranges of its rule, and the checked settings carry the fields of the write: a
number its value, a code its member, a yes/no field its byte. The one field that is not carried is the credit limit of a
PREPAID account, which is stored as 0. Model's choices: AUTO_ARRIVE and END are yes/no fields (log entry 36), and so is the master
enable of a signal record, 1 for on, where R188 has "on or off" (log entry 46)
(R1, R4, R6, R38, R53, R62, R67, R68, R84, R86, R110, R119, R124, R133, R135, R156, R158, R177, R181, R188). -/
def Obligations.WriteRangesAreTheRulesRanges : Prop :=
  (∀ w : MarinaWrite, ((checkMarina w).isSome = true ↔
    (1 ≤ w.node ∧ w.node ≤ 254 ∧ w.lead ≤ 48 ∧ w.keel ≤ 20 ∧ w.exitGrace ≤ 240 ∧ 1 ≤ w.deglitch ∧ w.deglitch ≤ 15 ∧
     1 ≤ w.tripCount ∧ w.tripCount ≤ 7 ∧ w.graceTime ≤ 255 ∧ 1 ≤ w.leakThreshold ∧ w.leakThreshold ≤ 50 ∧
     ∀ a, w.staffAccount = some a → a < 512)) ∧
    ∀ v, checkMarina w = some v → v.node = w.node ∧ v.lead = w.lead ∧ v.keel = w.keel ∧ v.exitGrace = w.exitGrace ∧
      v.deglitch = w.deglitch ∧ v.tripCount = w.tripCount ∧ v.graceTime = w.graceTime ∧
      v.leakThreshold = w.leakThreshold ∧ v.staffAccount.map (·.val) = w.staffAccount) ∧
  (∀ w : PontoonWrite, ((checkPontoon w).isSome = true ↔
    (w.gatePresent ≤ 1 ∧ w.capacity ≤ 1000 ∧ w.reserve ≤ 250 ∧ w.reserve ≤ w.capacity ∧ w.commitLimit ≤ 4000 ∧
     w.peopleCapacity ≤ 255 ∧ w.passbackStrict ≤ 1 ∧ w.curfewStart ≤ 86399 ∧ w.curfewEnd ≤ 86399 ∧ w.curfewMode ≤ 3 ∧
     100 ≤ w.vf ∧ w.vf ≤ 300 ∧ 100 ≤ w.vr ∧ w.vr ≤ 300 ∧ w.vf < w.vr)) ∧
    ∀ v, checkPontoon w = some v → v.gatePresent = decide (w.gatePresent = 1) ∧ v.capacity = w.capacity ∧
      v.reserve = w.reserve ∧ v.commitLimit = w.commitLimit ∧ v.peopleCapacity = w.peopleCapacity ∧
      v.passbackStrict = decide (w.passbackStrict = 1) ∧ v.curfewStart = w.curfewStart ∧ v.curfewEnd = w.curfewEnd ∧
      v.curfewMode = w.curfewMode ∧ v.vf = w.vf ∧ v.vr = w.vr) ∧
  (∀ w : BerthWrite, ((checkBerth w).isSome = true ↔
    (w.pontoon < 12 ∧ w.maxLoa ≤ 1023 ∧ w.maxBeam ≤ 1023 ∧ w.depth ≤ 1023 ∧ w.outlets.length ≤ 2 ∧
     (∀ o ∈ w.outlets, o < 192) ∧ w.outlets.Nodup ∧ ∀ a, w.tap = some a → a < 128)) ∧
    ∀ v, checkBerth w = some v → v.pontoon.val = w.pontoon ∧ v.maxLoa = w.maxLoa ∧ v.maxBeam = w.maxBeam ∧
      v.depth = w.depth ∧ v.outlets.map (·.val) = w.outlets ∧ v.tap.map (·.val) = w.tap) ∧
  (∀ w : StayWrite, ((checkStay w).isSome = true ↔
    (1 ≤ w.loa ∧ w.loa ≤ 1023 ∧ 1 ≤ w.beam ∧ w.beam ≤ 1023 ∧ 1 ≤ w.draft ∧ w.draft ≤ 1023 ∧ w.powerClass ≤ 4 ∧
     w.priority ≤ 3 ∧ w.allowance ≤ 65535 ∧ w.account ≤ 511 ∧ w.arrival < w.departure ∧ w.departure ≤ 4294967295 ∧
     w.holdGrace ≤ 24 ∧ w.autoArrive ≤ 1)) ∧
    ∀ v, checkStay w = some v → v.loa = w.loa ∧ v.beam = w.beam ∧ v.draft = w.draft ∧ v.power.ctorIdx = w.powerClass ∧
      v.priority.val = w.priority ∧ v.allowance = w.allowance ∧ v.account.val = w.account ∧ v.arrival = w.arrival ∧
      v.departure = w.departure ∧ v.holdGrace = w.holdGrace ∧ v.prefs = w.prefs ∧
      v.autoArrive = decide (w.autoArrive = 1)) ∧
  (∀ w : AccountWrite, ((checkAccount w).isSome = true ↔
    (w.kind ≤ 1 ∧ w.creditLimit ≤ 10000000 ∧ -50 ≤ w.adjustment ∧ w.adjustment ≤ 50 ∧ w.lowThreshold ≤ 1000000 ∧
     w.restoreMargin ≤ 1000000)) ∧
    ∀ v, checkAccount w = some v → v.kind.ctorIdx = w.kind ∧ v.creditLimit = (if w.kind = 0 then 0 else w.creditLimit) ∧
      v.adjustment = w.adjustment ∧ v.lowThreshold = w.lowThreshold ∧ v.restoreMargin = w.restoreMargin) ∧
  (∀ w : TariffWrite, ((checkTariff w).isSome = true ↔
    (w.powerDay ≤ 99999999 ∧ w.powerNight ≤ 99999999 ∧ w.water ≤ 99999999 ∧ w.fuel0 ≤ 99999999 ∧ w.fuel1 ≤ 99999999 ∧
     w.berth ≤ 99999999 ∧ w.dayStart ≤ 86399 ∧ w.dayEnd ≤ 86399)) ∧
    ∀ v, checkTariff w = some v → v.powerDay = w.powerDay ∧ v.powerNight = w.powerNight ∧ v.water = w.water ∧
      v.fuel0 = w.fuel0 ∧ v.fuel1 = w.fuel1 ∧ v.berth = w.berth ∧ v.dayStart = w.dayStart ∧ v.dayEnd = w.dayEnd) ∧
  (∀ w : BranchWrite, ((checkBranch w).isSome = true ↔
    (w.rateCode ≤ 7 ∧ 1 ≤ w.missLimit ∧ w.missLimit ≤ 7 ∧ 2 ≤ w.answerTimeout ∧ w.answerTimeout ≤ 50 ∧ 1 ≤ w.ratio ∧
     w.ratio ≤ 4)) ∧
    ∀ v, checkBranch w = some v → v.rateCode = w.rateCode ∧ v.missLimit = w.missLimit ∧
      v.answerTimeout = w.answerTimeout ∧ v.ratio = w.ratio) ∧
  (∀ w : StationWrite, ((checkStation w).isSome = true ↔
    (w.kind ≤ 4 ∧ w.branch < 6 ∧ 1 ≤ w.address ∧ w.address ≤ 31 ∧ w.enabled ≤ 1 ∧
     (w.kind = 1 → (∃ n, w.outletCount = some n ∧ 1 ≤ n ∧ n ≤ 4) ∧ ∃ n, w.tapCount = some n ∧ n ≤ 2) ∧
     (w.kind ≠ 1 → w.outletCount = none ∧ w.tapCount = none) ∧
     (w.kind = 4 → ∃ p, w.pontoon = some p ∧ p < 12) ∧ (w.kind ≠ 4 → w.pontoon = none))) ∧
    ∀ v, checkStation w = some v → v.kind.ctorIdx = w.kind ∧ v.branch.val = w.branch ∧ v.address = w.address ∧
      v.enabled = decide (w.enabled = 1) ∧ v.outletCount = w.outletCount ∧ v.tapCount = w.tapCount ∧
      v.pontoon.map (·.val) = w.pontoon) ∧
  (∀ w : FilterWrite, ((checkFilter w).isSome = true ↔ (w.query ≤ 3 ∧ w.config ≤ 3 ∧ w.actuate ≤ 3 ∧ w.service ≤ 3)) ∧
    ∀ v, checkFilter w = some v → v.query.ctorIdx = w.query ∧ v.config.ctorIdx = w.config ∧
      v.actuate.ctorIdx = w.actuate ∧ v.service.ctorIdx = w.service) ∧
  (∀ w : OutletWrite, ((checkOutlet w).isSome = true ↔
    (w.socket ≤ 3 ∧ (w.rating = 16 ∨ w.rating = 32 ∨ w.rating = 63 ∨ w.rating = 125) ∧ ∀ a, w.post = some a → a < 128)) ∧
    ∀ v, checkOutlet w = some v → v.post.map (·.val) = w.post ∧ v.socket.val = w.socket ∧ v.rating = w.rating) ∧
  (∀ w : StartWrite, ((checkStart w).isSome = true ↔
    (1 ≤ w.startTime ∧ w.startTime ≤ 30 ∧ 100 ≤ w.startFactor ∧ w.startFactor ≤ 300)) ∧
    ∀ v, checkStart w = some v → v = (w.startTime, w.startFactor)) ∧
  (∀ w : Vector StepWrite 8, ((stepsChecked w).isSome = true ↔ ∀ k : Fin 8, w[k].delay ≤ 15 ∧ w[k].endFlag ≤ 1) ∧
    ∀ v, stepsChecked w = some v → ∀ k : Fin 8,
      v[k].delay = w[k].delay ∧ v[k].mask = w[k].mask ∧ v[k].endFlag = decide (w[k].endFlag = 1)) ∧
  (∀ w : TapWrite, ((checkTap w).isSome = true ↔
    (w.tapIndex ≤ 1 ∧ 1 ≤ w.maxRun ∧ w.maxRun ≤ 255 ∧ ∀ a, w.post = some a → a < 128)) ∧
    ∀ v, checkTap w = some v → v.post.map (·.val) = w.post ∧ v.tapIndex.val = w.tapIndex ∧ v.maxRun = w.maxRun) ∧
  (∀ w : TankWrite, ((checkTank w).isSome = true ↔ (w.reserve ≤ 1000000 ∧ w.lowStock ≤ 10000000)) ∧
    ∀ v, checkTank w = some v → v = (w.reserve, w.lowStock)) ∧
  (∀ w : DispenserWrite, ((checkDispenser w).isSome = true ↔
    (w.grade ≤ 1 ∧ 100 ≤ w.maxPreset ∧ w.maxPreset ≤ 99999 ∧ w.tolerance ≤ 100 ∧ 10 ≤ w.nozzleTimeout ∧
     w.nozzleTimeout ≤ 600 ∧ ∀ a, w.station = some a → a < 128)) ∧
    ∀ v, checkDispenser w = some v → v.station.map (·.val) = w.station ∧ v.grade.val = w.grade ∧
      v.maxPreset = w.maxPreset ∧ v.tolerance = w.tolerance ∧ v.nozzleTimeout = w.nozzleTimeout) ∧
  (∀ w : CredentialWrite, ((checkCredential w).isSome = true ↔
    (w.kind ≤ 3 ∧ w.state ≤ 1 ∧ w.validFrom ≤ 4294967295 ∧ w.validTo ≤ 4294967295 ∧
     (w.kind = 0 → (∃ y, w.stay = some y ∧ y < 256) ∧ w.account = none) ∧
     (w.kind = 1 → (∃ a, w.account = some a ∧ a < 512) ∧ w.stay = none) ∧
     (2 ≤ w.kind → w.stay = none ∧ w.account = none) ∧
     (w.validFrom ≠ 0 → w.validTo ≠ 0 → w.validFrom ≤ w.validTo))) ∧
    ∀ v, checkCredential w = some v → v.number = w.number ∧ v.kind.ctorIdx = w.kind ∧ v.stay.map (·.val) = w.stay ∧
      v.account.map (·.val) = w.account ∧ v.pontoons = w.pontoons ∧ v.validFrom = w.validFrom ∧ v.validTo = w.validTo ∧
      v.state.ctorIdx = w.state) ∧
  (∀ w : GateWrite, ((checkGate w).isSome = true ↔
    (1 ≤ w.unlockTime ∧ w.unlockTime ≤ 30 ∧ 5 ≤ w.heldLimit ∧ w.heldLimit ≤ 600 ∧ ∀ a, w.reader = some a → a < 128)) ∧
    ∀ v, checkGate w = some v → v.reader.map (·.val) = w.reader ∧ v.unlockTime = w.unlockTime ∧
      v.heldLimit = w.heldLimit) ∧
  (∀ w : SignalWrite, ((checkSignal w).isSome = true ↔
    (w.enable ≤ 1 ∧ w.polarity ≤ 1 ∧ w.stretch ≤ 3 ∧ w.mask.getLsbD 7 = false)) ∧
    ∀ v, checkSignal w = some v → v.mask.toNat = w.mask.toNat ∧ v.enable = decide (w.enable = 1) ∧
      v.polarity.ctorIdx = w.polarity ∧ v.stretch = w.stretch)

/-- An accepted write of the marina settings, the tariff, a filter record, a start record, a load program or a signal record
replaces exactly that record; a program that a pontoon runs is BUSY (R53, R86, R119, R177, R181, R188). A new node address is
not yet in force (R177). -/
def Obligations.SettingsWriteReplacesItsRecord : Prop :=
  ∀ (s : State) (h : ReqHeader) (w : List Byte),
    (∀ v, s.Writes h .marina w 0 → checkMarina (rdMarina (w.drop 2)) = some v →
      ∃ t, exec (.writeMarinaSettings h w) s = .next t ∧ t.Replies s h 0x05 (.done []) ∧ t.settings = v ∧
        t.KeepsBut s [.answers, .settings]) ∧
    (∀ v, s.Writes h .tariff w 0 → checkTariff (rdTariff (w.drop 2)) = some v →
      ∃ t, exec (.writeTariffRecord h w) s = .next t ∧ t.Replies s h 0x05 (.done []) ∧
        t.ledger = { s.ledger with tariff := v } ∧ t.KeepsBut s [.answers, .ledger]) ∧
    (∀ (k : Fin 4) v, s.Writes h .filter w k.val → checkFilter (rdFilter (w.drop 2)) = some v →
      ∃ t, exec (.writeFilterRecord h w) s = .next t ∧ t.Replies s h 0x05 (.done []) ∧
        t.link.filter = s.link.filter.set k v ∧ t.link.branches = s.link.branches ∧
        t.link.stations = s.link.stations ∧ t.KeepsBut s [.answers, .link]) ∧
    (∀ (p : PontoonId) v, s.Writes h .start w p.val → checkStart (rdStart (w.drop 2)) = some v →
      ∃ t, exec (.writeStartRecord h w) s = .next t ∧ t.Replies s h 0x05 (.done []) ∧
        t.power = (s.setStart p { s.start p with startTime := v.1, startFactor := v.2 }).power ∧
        t.KeepsBut s [.answers, .power]) ∧
    (∀ (k : Fin 2) v, s.Writes h .program w k.val → stepsChecked (rdProgram (w.drop 2)) = some v →
      (∀ p, (s.feeder p).state ≠ if k = 1 then .restoring else .shedding) →
      ∃ t, exec (.writeProgramRecord h w) s = .next t ∧ t.Replies s h 0x05 (.done []) ∧
        t.power = { s.power with programs := s.power.programs.set k v } ∧ t.KeepsBut s [.answers, .power]) ∧
    (∀ (k : Fin 2) v p, s.Writes h .program w k.val → stepsChecked (rdProgram (w.drop 2)) = some v →
      (s.feeder p).state = (if k = 1 then .restoring else .shedding) →
      ∃ t, exec (.writeProgramRecord h w) s = .next t ∧ t.Replies s h 0x05 .busy ∧ t.KeepsBut s [.answers]) ∧
    (∀ (i : Fin 2) v, s.Writes h .signal w i.val → checkSignal (rdSignal (w.drop 2)) = some v →
      ∃ t, exec (.writeSignalRecord h w) s = .next t ∧ t.Replies s h 0x05 (.done []) ∧ (t.signal i).mask = v.mask ∧
        (t.signal i).enable = v.enable ∧ (t.signal i).polarity = v.polarity ∧ (t.signal i).stretch = v.stretch ∧
        t.LinesFollow ∧
        (∀ j, j ≠ i → (t.signal j).mask = (s.signal j).mask ∧ (t.signal j).enable = (s.signal j).enable ∧
          (t.signal j).polarity = (s.signal j).polarity ∧ (t.signal j).stretch = (s.signal j).stretch) ∧
        t.KeepsBut s [.answers, .signals])

/-- WRITE RECORD to the pontoon table replaces the settings part; where the new capacity less reserve gives no more
headroom and gate present stays, nothing else changes; a gate that leaves use is LOCKED with display code 0 (R158), and
one that comes into use while the gates are released joins the release (R1, R110, R168). A commit limit below the
committed amps, a budget below the used amps, or the removal of a gate with pending passages or an UNLOCKED lock is
refused STATE (R1, R110, R158). -/
def Obligations.PontoonWriteReplacesSettings : Prop :=
  ∀ (s : State) (h : ReqHeader) (w : List Byte) (p : PontoonId) (v : PontoonSettings), s.Writes h .pontoon w p.val →
    checkPontoon (rdPontoon (w.drop 2)) = some v →
    (s.committedAmps p ≤ v.commitLimit → s.usedAmps p ≤ v.capacity - v.reserve →
      ((s.pontoon p).gatePresent = true → v.gatePresent = false →
        (s.gate p).passages = [] ∧ (s.gate p).lock ≠ .unlocked) →
      ∃ t, exec (.writePontoonRecord h w) s = .next t ∧ t.Replies s h 0x05 (.done []) ∧
        t.register = (s.setPontoon p v).register ∧
        (v.capacity - v.reserve ≤ (s.pontoon p).capacity - (s.pontoon p).reserve → t.power = s.power) ∧
        (v.gatePresent = (s.pontoon p).gatePresent → t.access = s.access) ∧
        ((s.pontoon p).gatePresent = true → v.gatePresent = false →
          t.gate p = { s.gate p with lock := .locked, display := 0 }) ∧
        ((s.pontoon p).gatePresent = false → v.gatePresent = true → s.gatesReleased = true →
          (t.gate p).lock = .released ∧ (t.gate p).passages = [] ∧ (t.gate p).unreliable = true ∧ (t.gate p).display = 12) ∧
        (∀ g, g ≠ p → t.gate g = s.gate g) ∧
        t.KeepsBut s [.answers, .register, .power, .link, .access]) ∧
    (v.commitLimit < s.committedAmps p ∨ v.capacity - v.reserve < s.usedAmps p ∨
      ((s.pontoon p).gatePresent = true ∧ v.gatePresent = false ∧
        ((s.gate p).passages ≠ [] ∨ (s.gate p).lock = .unlocked)) →
      s.Refuses (.writePontoonRecord h w) h 0x05 .state 0)

/-! ### Berths and stays (R4 to R24) -/

/-- WRITE RECORD to the berth table writes the settings part of a FREE or CLOSED berth and the berth field of each outlet
and tap that the berth gains or loses (R4). An outlet that gains or loses the berth is re-evaluated, which leaves a
waiting one PLUGGED with reason NO_STAY; one that the berth keeps is not (R4, R91). An outlet or tap of another berth is
refused IN_USE, and a berth that a stay holds, occupies or clears STATE. OPEN BERTH makes a CLOSED berth FREE, which
counts as a freed berth; CLOSE BERTH makes a FREE berth CLOSED; any other state is refused STATE (R5, R29). -/
def Obligations.BerthWriteOpenAndClose : Prop :=
  ∀ (s : State) (h : ReqHeader) (b : BerthId) (w : List Byte),
    (∀ v : BerthSettings, s.Writes h .berth w b.val → (s.berth b).state = .free ∨ (s.berth b).state = .closed →
      checkBerth (rdBerth (w.drop 2)) = some v →
      ((∀ o ∈ v.outlets, (s.outlet o).berth = none ∨ (s.outlet o).berth = some b) →
       (∀ a, v.tap = some a → (s.tap a).berth = none ∨ (s.tap a).berth = some b) →
        ∃ t, exec (.writeBerthRecord h w) s = .next t ∧ t.Replies s h 0x05 (.done []) ∧
          t.register = (s.setBerth b { s.berth b with
            pontoon := v.pontoon, maxLoa := v.maxLoa, maxBeam := v.maxBeam, depth := v.depth, outlets := v.outlets,
            tap := v.tap }).register ∧
          (∀ o, (t.outlet o).berth = if o ∈ v.outlets then some b else if o ∈ (s.berth b).outlets then none
                                     else (s.outlet o).berth) ∧
          (s.PowerSound → ∀ o, (o ∈ v.outlets ↔ o ∈ (s.berth b).outlets) → (s.outlet o).state ≠ .queued →
            (t.outlet o).state = (s.outlet o).state ∧ (t.outlet o).reason = (s.outlet o).reason) ∧
          (s.PowerSound → ∀ o, ¬ (o ∈ v.outlets ↔ o ∈ (s.berth b).outlets) →
            if (s.outlet o).state ∈ [.plugged, .shed, .queued]
            then (t.outlet o).state = .plugged ∧ (t.outlet o).reason = some .noStay
            else (t.outlet o).state = (s.outlet o).state) ∧
          (∀ a, t.tap a = if v.tap = some a then { s.tap a with berth := some b }
                          else if (s.berth b).tap = some a then { s.tap a with berth := none } else s.tap a) ∧
          t.KeepsBut s [.answers, .register, .power, .water, .link]) ∧
      (∀ o c, o ∈ v.outlets → (s.outlet o).berth = some c → c ≠ b →
        s.Refuses (.writeBerthRecord h w) h 0x05 .inUse 0) ∧
      (∀ a c, v.tap = some a → (s.tap a).berth = some c → c ≠ b → s.Refuses (.writeBerthRecord h w) h 0x05 .inUse 0)) ∧
    (s.Writes h .berth w b.val → (s.berth b).state ≠ .free → (s.berth b).state ≠ .closed →
      s.Refuses (.writeBerthRecord h w) h 0x05 .state 0) ∧
    (rd w 0 2 = b.val →
      (s.Takes h 0x18 w → (s.berth b).state = .closed → ∃ t, exec (.openBerth h w) s = .next t ∧
        t.Replies s h 0x18 (.done []) ∧
        t.register = (s.setBerth b { s.berth b with state := .free }).register ∧
        t.engine = { s.engine with resubmit := min 240 (s.engine.resubmit + 1) } ∧
        t.clock.value = s.clock.value ∧ t.clock.isSet = s.clock.isSet ∧
        t.KeepsBut s [.answers, .register, .engine, .clock, .notices]) ∧
      (s.Takes h 0x18 w → (s.berth b).state ≠ .closed → s.Refuses (.openBerth h w) h 0x18 .state 0) ∧
      (s.Takes h 0x19 w → (s.berth b).state = .free → ∃ t, exec (.closeBerth h w) s = .next t ∧
        t.Replies s h 0x19 (.done []) ∧
        t.register = (s.setBerth b { s.berth b with state := .closed }).register ∧
        t.KeepsBut s [.answers, .register]) ∧
      (s.Takes h 0x19 w → (s.berth b).state ≠ .free → s.Refuses (.closeBerth h w) h 0x19 .state 0))

/-! ### The pairing of berths and stays, the arrivals list, commitment (R2, R7, R8, R25) -/

/-- Every step keeps berths and stays paired (R7), the arrivals list to the EXPECTED stays without a berth, once each and
in order (R8), the Fit Engine's entries to stays of that list (R25, R27, R35), and the committed amps of every pontoon
within its commit limit (R2). -/
def Obligations.EveryStepKeepsRegisterSound : Prop :=
  ∀ s t : State, s.RegisterSound → step s = .next t → t.RegisterSound

/-- CREATE STAY fills the lowest-numbered EMPTY slot with an EXPECTED stay, puts it on the arrivals list at the place its
arrival time and id give, with its lead mark clear, and answers its id; a CLOSED account is refused STATE, a full table
FULL, and settings out of range BAD_VALUE (R8, R9). -/
def Obligations.CreateStayFillsLowestSlot : Prop :=
  ∀ (s : State) (h : ReqHeader) (w : List Byte), s.Takes h 0x10 w →
    (checkStay (rdStay w) = none → s.Refuses (.createStay h w) h 0x10 .badValue 0) ∧
    ∀ v : StaySettings, checkStay (rdStay w) = some v →
    (∀ y, (s.account v.account).state ≠ .closed → (s.stay y).state = .empty → (∀ z, z < y → (s.stay z).state ≠ .empty) →
      ∃ t, exec (.createStay h w) s = .next t ∧ t.Replies s h 0x10 (.done (le 2 y.val)) ∧
        t.stay y = { Stay.emptied with settings := v, state := .expected, allowanceLeft := v.allowance } ∧
        (∀ z, z ≠ y → t.stay z = s.stay z) ∧ (∀ z, z ∈ t.arrivals ↔ (z = y ∨ z ∈ s.arrivals)) ∧
        (s.ArrivalsOrdered → t.ArrivalsOrdered) ∧
        t.register.berths = s.register.berths ∧ t.register.pontoons = s.register.pontoons ∧
        t.engine = { s.engine with leadMarks := s.engine.leadMarks.set y false } ∧
        t.KeepsBut s [.answers, .register, .engine]) ∧
    ((s.account v.account).state = .closed → s.Refuses (.createStay h w) h 0x10 .state 0) ∧
    ((s.account v.account).state ≠ .closed → (∀ y, (s.stay y).state ≠ .empty) → s.Refuses (.createStay h w) h 0x10 .full 0)

/-- WRITE RECORD to the stay table replaces the settings part of an EXPECTED or ARRIVED stay whose berth still fits it,
and a listed stay with a new arrival time takes its new place with its lead mark clear (R8, R10, R28); the first condition
of R12 that fails is the detail of the refusal (R10, R12). A stay in another state, and a CLOSED account, are refused
STATE (R10). -/
def Obligations.StayWriteReplacesSettings : Prop :=
  ∀ (s : State) (h : ReqHeader) (y : StayId) (w : List Byte), s.Writes h .stay w y.val →
    (∀ v : StaySettings, (s.stay y).state = .expected ∨ (s.stay y).state = .arrived →
      checkStay (rdStay (w.drop 2)) = some v →
      ((s.account v.account).state ≠ .closed → writeConditions s y v = none →
        ∃ t, exec (.writeStayRecord h w) s = .next t ∧ t.Replies s h 0x05 (.done []) ∧
          (t.stay y).settings = v ∧ (t.stay y).state = (s.stay y).state ∧ (t.stay y).berth = (s.stay y).berth ∧
          (t.stay y).allowanceLeft = (s.stay y).allowanceLeft ∧ (∀ z, z ≠ y → t.stay z = s.stay z) ∧
          t.register.berths = s.register.berths ∧ (∀ z, z ∈ t.arrivals ↔ z ∈ s.arrivals) ∧
          (s.ArrivalsOrdered → t.ArrivalsOrdered) ∧
          (y ∈ s.arrivals → (s.stay y).settings.arrival ≠ v.arrival →
            t.engine = { s.engine with leadMarks := s.engine.leadMarks.set y false }) ∧
          (y ∉ s.arrivals ∨ (s.stay y).settings.arrival = v.arrival → t.engine = s.engine) ∧
          t.KeepsBut s [.answers, .register, .engine, .clock, .power, .link, .notices]) ∧
      (∀ n, (s.account v.account).state ≠ .closed → writeConditions s y v = some n →
        s.Refuses (.writeStayRecord h w) h 0x05 (if n = 1 then .state else if n = 7 then .full else .badValue) n) ∧
      ((s.account v.account).state = .closed → s.Refuses (.writeStayRecord h w) h 0x05 .state 0)) ∧
    ((s.stay y).state ≠ .expected → (s.stay y).state ≠ .arrived → s.Refuses (.writeStayRecord h w) h 0x05 .state 0)

/-- EXTEND writes the departure time of an EXPECTED or ARRIVED stay; for an ARRIVED stay under a set clock it clears
OVERSTAY_NOTED when the new time is later than the clock, and otherwise raises OVERSTAY when it has not been noted; while
the clock is unset OVERSTAY_NOTED stands. A stay in another state is refused STATE, a time not later than the arrival time
and a stay id above 255 BAD_VALUE (R11). -/
def Obligations.ExtendWritesDeparture : Prop :=
  ∀ (s : State) (h : ReqHeader) (d : Nat) (w : List Byte), s.Takes h 0x15 w → rd w 2 4 = d →
    (256 ≤ rd w 0 2 → s.Refuses (.extend h w) h 0x15 .badValue 0) ∧
    ∀ y : StayId, rd w 0 2 = y.val →
    ((s.stay y).state = .expected ∨ (s.stay y).state = .arrived → (s.stay y).settings.arrival < d →
      ∃ t, exec (.extend h w) s = .next t ∧ t.Replies s h 0x15 (.done []) ∧
        (t.stay y).settings = { (s.stay y).settings with departure := d } ∧ (t.stay y).state = (s.stay y).state ∧
        (t.stay y).berth = (s.stay y).berth ∧
        ((s.stay y).state = .arrived → s.clock.isSet = true → s.clock.value < d →
          (t.stay y).overstayNoted = false ∧ t.trunk.notices = s.trunk.notices) ∧
        ((s.stay y).state = .arrived → s.clock.isSet = true → d ≤ s.clock.value → (t.stay y).overstayNoted = true) ∧
        ((s.stay y).state = .arrived → s.clock.isSet = true → d ≤ s.clock.value → (s.stay y).overstayNoted = false →
          s.trunk.notices.length < 64 →
          t.trunk.notices = s.trunk.notices ++ [{ note := .overstay y (s.stay y).berth d, time := s.clock.value }]) ∧
        ((s.stay y).state = .arrived → s.clock.isSet = true → d ≤ s.clock.value → (s.stay y).overstayNoted = true →
          t.trunk.notices = s.trunk.notices) ∧
        ((s.stay y).state = .expected → t.trunk.notices = s.trunk.notices ∧ t.clock = s.clock) ∧
        ((s.stay y).state = .expected ∨ s.clock.isSet = false →
          (t.stay y).overstayNoted = (s.stay y).overstayNoted) ∧
        (s.clock.isSet = true → t.clock = s.clock) ∧
        (∀ z, z ≠ y → t.stay z = s.stay z) ∧ t.register.berths = s.register.berths ∧ t.arrivals = s.arrivals ∧
        t.KeepsBut s [.answers, .register, .clock, .notices]) ∧
    ((s.stay y).state ≠ .expected → (s.stay y).state ≠ .arrived → s.Refuses (.extend h w) h 0x15 .state 0) ∧
    ((s.stay y).state = .expected ∨ (s.stay y).state = .arrived → d ≤ (s.stay y).settings.arrival →
      s.Refuses (.extend h w) h 0x15 .badValue 0)

/-- ASSIGN makes the berth HELD for an EXPECTED stay without a berth, and takes the stay off the arrivals list; the first
condition of R12 that fails refuses it with its number (R12, R13). -/
def Obligations.AssignHoldsAnEligibleBerth : Prop :=
  ∀ (s : State) (h : ReqHeader) (y : StayId) (b : BerthId) (w : List Byte), s.Takes h 0x11 w → rd w 0 2 = y.val →
    rd w 2 2 = b.val →
    ((s.stay y).state = .expected → (s.stay y).berth = none →
      firstFailing (eligibility s (s.stay y).settings.fit b 0) = none →
      ∃ t, exec (.assign h w) s = .next t ∧ t.Replies s h 0x11 (.done []) ∧
        t.berth b = { s.berth b with state := .held, currentStay := some y } ∧ (∀ c, c ≠ b → t.berth c = s.berth c) ∧
        t.stay y = { s.stay y with berth := some b, unplaced := false } ∧ (∀ z, z ≠ y → t.stay z = s.stay z) ∧
        t.arrivals = s.arrivals.filter (· ≠ y) ∧ t.register.pontoons = s.register.pontoons ∧
        (∀ e ∈ t.engine.queue, e.stay ≠ y) ∧ (s.fitQueued y = false → t.engine = s.engine) ∧
        t.KeepsBut s [.answers, .register, .engine, .clock, .notices]) ∧
    (∀ n, (s.stay y).state = .expected → (s.stay y).berth = none →
      firstFailing (eligibility s (s.stay y).settings.fit b 0) = some n →
      s.Refuses (.assign h w) h 0x11 (if n = 1 then .state else if n = 7 then .full else .badValue) n) ∧
    ((s.stay y).state ≠ .expected ∨ (s.stay y).berth.isSome = true → s.Refuses (.assign h w) h 0x11 .state 0)

/-- The seven conditions of R12 for a berth, tested in their order: the first that fails is the one the check answers
with, and it answers with none exactly when all hold. Condition 7 counts the pontoon's committed amps less `own`: a MOVE and a
stay write take off the class of the stay's own berth where that berth lies on the same pontoon (R12), and nothing else does.
A stay write tests conditions 2, 3, 4, 6 and 7 against the stay's berth, and none where it has no berth (R10). -/
def Obligations.EligibilityIsTheSevenConditions : Prop :=
  (∀ (s : State) (v : FitValues) (b : BerthId) (own : Nat),
    let c1 := (s.berth b).state = .free
    let c2 := v.loa ≤ (s.berth b).maxLoa
    let c3 := v.beam ≤ (s.berth b).maxBeam
    let c4 := v.draft + s.settings.keel ≤ (s.berth b).depth
    let c5 := v.prefs = 0 ∨ v.prefs.getLsbD (s.berth b).pontoon.val = true
    let c6 := v.power = .none ∨ ∃ o ∈ (s.berth b).outlets, v.power.amps ≤ (s.outlet o).rating
    let c7 := s.committedAmps (s.berth b).pontoon - own + v.power.amps ≤ (s.pontoon (s.berth b).pontoon).commitLimit
    let first := firstFailing (eligibility s v b own)
    (first = none ↔ c1 ∧ c2 ∧ c3 ∧ c4 ∧ c5 ∧ c6 ∧ c7) ∧
    (first = some 1 ↔ ¬ c1) ∧
    (first = some 2 ↔ c1 ∧ ¬ c2) ∧
    (first = some 3 ↔ c1 ∧ c2 ∧ ¬ c3) ∧
    (first = some 4 ↔ c1 ∧ c2 ∧ c3 ∧ ¬ c4) ∧
    (first = some 5 ↔ c1 ∧ c2 ∧ c3 ∧ c4 ∧ ¬ c5) ∧
    (first = some 6 ↔ c1 ∧ c2 ∧ c3 ∧ c4 ∧ c5 ∧ ¬ c6) ∧
    (first = some 7 ↔ c1 ∧ c2 ∧ c3 ∧ c4 ∧ c5 ∧ c6 ∧ ¬ c7)) ∧
  (∀ (s : State) (y : StayId) (b : BerthId),
    ((s.stay y).berth = none → s.ownClassOn y b = 0) ∧
    ∀ c, (s.stay y).berth = some c →
      ((s.berth c).pontoon = (s.berth b).pontoon → (s.berth c).state = .held ∨ (s.berth c).state = .occupied →
        s.ownClassOn y b = (s.stay y).settings.power.amps) ∧
      ((s.berth c).pontoon ≠ (s.berth b).pontoon ∨ ((s.berth c).state ≠ .held ∧ (s.berth c).state ≠ .occupied) →
        s.ownClassOn y b = 0)) ∧
  (∀ (s : State) (y : StayId) (v : StaySettings),
    ((s.stay y).berth = none → writeConditions s y v = none) ∧
    ∀ b, (s.stay y).berth = some b →
      let c2 := v.loa ≤ (s.berth b).maxLoa
      let c3 := v.beam ≤ (s.berth b).maxBeam
      let c4 := v.draft + s.settings.keel ≤ (s.berth b).depth
      let c6 := v.power = .none ∨ ∃ o ∈ (s.berth b).outlets, v.power.amps ≤ (s.outlet o).rating
      let c7 := s.committedAmps (s.berth b).pontoon - s.ownClassOn y b + v.power.amps ≤
        (s.pontoon (s.berth b).pontoon).commitLimit
      let first := writeConditions s y v
      (first = none ↔ c2 ∧ c3 ∧ c4 ∧ c6 ∧ c7) ∧
      (first = some 2 ↔ ¬ c2) ∧
      (first = some 3 ↔ c2 ∧ ¬ c3) ∧
      (first = some 4 ↔ c2 ∧ c3 ∧ ¬ c4) ∧
      (first = some 6 ↔ c2 ∧ c3 ∧ c4 ∧ ¬ c6) ∧
      (first = some 7 ↔ c2 ∧ c3 ∧ c4 ∧ c6 ∧ ¬ c7))

/-- UNASSIGN frees the held berth and puts the EXPECTED stay back on the arrivals list, at its place (R8, R14). CANCEL
STAY and a lapse make it EMPTY, free its berth or its place on the list, and leave its ACTIVE and SUSPENDED guest
credentials EXIT_ONLY, with an exit expiry while the clock is set (R15, R16, R157). A lapse is taken when a clock event
has met its deadline, which is the model's choice (log entry 8). -/
def Obligations.UnassignCancelAndLapse : Prop :=
  ∀ (s : State) (h : ReqHeader) (y : StayId) (w : List Byte), (s.stay y).state = .expected → (rd w 0 2 = y.val →
      (∀ b, s.Takes h 0x12 w → (s.stay y).berth = some b → ∃ t, exec (.unassign h w) s = .next t ∧
        t.Replies s h 0x12 (.done []) ∧ t.stay y = { s.stay y with berth := none } ∧
        t.berth b = { s.berth b with state := .free, currentStay := none } ∧ (∀ c, c ≠ b → t.berth c = s.berth c) ∧
        (∀ z, z ≠ y → t.stay z = s.stay z) ∧ (∀ z, z ∈ t.arrivals ↔ (z = y ∨ z ∈ s.arrivals)) ∧
        (s.ArrivalsOrdered → t.ArrivalsOrdered) ∧
        t.engine.resubmit = min 240 (s.engine.resubmit + 1) ∧ t.engine.leadMarks[y] = false ∧
        t.KeepsBut s [.answers, .register, .engine, .clock, .notices]) ∧
      (s.Takes h 0x12 w → (s.stay y).berth = none → s.Refuses (.unassign h w) h 0x12 .noBerth 0) ∧
      (s.Takes h 0x13 w → ∃ t, exec (.cancelStay h w) s = .next t ∧ t.Replies s h 0x13 (.done []) ∧
        t.stay y = Stay.emptied ∧ (∀ z, z ≠ y → t.stay z = s.stay z) ∧
        (∀ b, (s.stay y).berth = some b → t.berth b = { s.berth b with state := .free, currentStay := none }) ∧
        ((s.stay y).berth = none → t.arrivals = s.arrivals.filter (· ≠ y) ∧ t.register.berths = s.register.berths) ∧
        t.GuestsEnded s y ∧ t.KeepsBut s [.answers, .register, .engine, .clock, .notices, .access])) ∧
    (s.part.condition = .running → (s.stay y).lapseMet = true →
      ∃ t, exec (.stayLapse y) s = .next t ∧ t.stay y = Stay.emptied ∧ (∀ z, z ≠ y → t.stay z = s.stay z) ∧
        (∀ b, (s.stay y).berth = some b → t.berth b = { s.berth b with state := .free, currentStay := none }) ∧
        ((s.stay y).berth = none → t.arrivals = s.arrivals.filter (· ≠ y) ∧ t.register.berths = s.register.berths) ∧
        (s.trunk.notices.length < 62 → ({ note := .stayLapsed y (s.stay y).berth (s.stay y).settings.arrival,
                                          time := s.stamp } : Notice) ∈ t.trunk.notices) ∧
        t.GuestsEnded s y ∧ t.KeepsBut s [.register, .engine, .clock, .notices, .access])

/-- ARRIVE makes an EXPECTED stay with a berth ARRIVED, its berth OCCUPIED, its allowance whole, with STAY_ARRIVED (R17).
The overstay of an ARRIVED stay sets OVERSTAY_NOTED and raises OVERSTAY (R19); that it is taken when a clock event has met
it is the model's choice (log entry 8). An EXTEND and a stay write of an ARRIVED stay test the overstay too (R10, R11, R19): under
a set clock a stay write to a later departure clears OVERSTAY_NOTED and one to a time not later raises OVERSTAY once, and while the
clock is unset either is a use of the clock, which raises CLOCK_UNSET once and finds no overstay (R187). That the two test it so
is the model's reading (log entry 13). -/
def Obligations.ArriveAndOverstay : Prop :=
  ∀ (s : State) (h : ReqHeader) (y : StayId) (w : List Byte), (rd w 0 2 = y.val →
      (∀ b, s.Takes h 0x14 w → (s.stay y).state = .expected → (s.stay y).berth = some b →
        ∃ t, exec (.arrive h w) s = .next t ∧ t.Replies s h 0x14 (.done []) ∧
          t.stay y = { s.stay y with state := .arrived, lastNight := s.currentDay,
                                     allowanceLeft := (s.stay y).settings.allowance, lapseMet := false,
                                     overstayMet := false } ∧
          t.berth b = { s.berth b with state := .occupied } ∧ (∀ z, z ≠ y → t.stay z = s.stay z) ∧
          (∀ c, c ≠ b → t.berth c = s.berth c) ∧ t.arrivals = s.arrivals ∧
          (s.trunk.notices.length < 64 →
            t.trunk.notices = s.trunk.notices ++ [{ note := .stayArrived y b .office, time := s.stamp }]) ∧
          t.KeepsBut s [.answers, .register, .power, .link, .notices]) ∧
      (s.Takes h 0x14 w → (s.stay y).state = .expected → (s.stay y).berth = none →
        s.Refuses (.arrive h w) h 0x14 .noBerth 0) ∧
      (s.Takes h 0x14 w → (s.stay y).state ≠ .expected → s.Refuses (.arrive h w) h 0x14 .state 0)) ∧
    (s.part.condition = .running → (s.stay y).state = .arrived → (s.stay y).overstayMet = true →
      (s.stay y).overstayNoted = false → ∃ t, exec (.overstay y) s = .next t ∧
        t.register = (s.setStay y { s.stay y with overstayNoted := true, overstayMet := false }).register ∧
        (s.trunk.notices.length < 64 → t.trunk.notices = s.trunk.notices ++
          [{ note := .overstay y (s.stay y).berth (s.stay y).settings.departure, time := s.stamp }]) ∧
        t.KeepsBut s [.register, .notices]) ∧
    ((s.stay y).state = .arrived →
      let unset (t : State) : Prop :=
        t.clock = { s.clock with unsetNoted := true } ∧ (t.stay y).overstayNoted = (s.stay y).overstayNoted ∧
        (s.trunk.notices.length < 64 → t.trunk.notices =
          s.trunk.notices ++ if s.clock.unsetNoted then [] else [{ note := .clockUnset, time := 0 }])
      (∀ d, s.Takes h 0x15 w → rd w 0 2 = y.val → rd w 2 4 = d → (s.stay y).settings.arrival < d → s.clock.isSet = false →
        ∃ t, exec (.extend h w) s = .next t ∧ t.Replies s h 0x15 (.done []) ∧ unset t) ∧
      (∀ v : StaySettings, s.Writes h .stay w y.val → checkStay (rdStay (w.drop 2)) = some v →
        (s.account v.account).state ≠ .closed → writeConditions s y v = none →
        ∃ t, exec (.writeStayRecord h w) s = .next t ∧ t.Replies s h 0x05 (.done []) ∧
          (s.clock.isSet = false → unset t) ∧
          (s.clock.isSet = true → s.clock.value < v.departure →
            (t.stay y).overstayNoted = false ∧ t.trunk.notices = s.trunk.notices ∧ t.clock = s.clock) ∧
          (s.clock.isSet = true → v.departure ≤ s.clock.value →
            (t.stay y).overstayNoted = true ∧ t.clock = s.clock ∧
            (s.trunk.notices.length < 64 → t.trunk.notices =
              s.trunk.notices ++ if (s.stay y).overstayNoted then []
                else [{ note := .overstay y (s.stay y).berth v.departure, time := s.stamp }]))))

/-- DEPART takes an ARRIVED stay from its berth, which is CLEARING while a final reading is outstanding, and FREE with the
stay EMPTY and DEPARTED raised when none is (R20, R23); every outlet of the berth that was energised is CLOSING, and the
stay's ACTIVE and SUSPENDED guest credentials are EXIT_ONLY, with an exit expiry while the clock is set (R157). -/
def Obligations.DepartClearsTheBerth : Prop :=
  ∀ (s : State) (h : ReqHeader) (y : StayId) (b : BerthId) (w : List Byte), s.Takes h 0x16 w → rd w 0 2 = y.val →
    ((s.stay y).state = .arrived → (s.stay y).berth = some b →
      ∃ t, exec (.depart h w) s = .next t ∧ t.Replies s h 0x16 (.done []) ∧
        ((s.outletsToRead b = [] ∧ s.tapToRead b = none) →
          t.stay y = Stay.emptied ∧ (t.berth b).state = .free ∧ (t.berth b).departingStay = none ∧
          t.engine.resubmit = min 240 (s.engine.resubmit + 1) ∧
          (s.trunk.notices.length < 62 →
            ({ note := .departed y b (s.stay y).settings.account 0, time := s.stamp } : Notice) ∈ t.trunk.notices)) ∧
        (¬ (s.outletsToRead b = [] ∧ s.tapToRead b = none) →
          (t.stay y).state = .departing ∧ (t.stay y).settings = (s.stay y).settings ∧ (t.berth b).state = .clearing ∧
          (t.berth b).departingStay = some y ∧
          (t.berth b).outstanding =
            ((s.outletsToRead b).map ReadItem.outlet ++ (s.tapToRead b).toList.map ReadItem.tap).map
              (fun i => { item := i, endAt := s.now + 60000 })) ∧
        (t.berth b).currentStay = none ∧ (∀ z, z ≠ y → t.stay z = s.stay z) ∧ (∀ c, c ≠ b → t.berth c = s.berth c) ∧
        (∀ o, o ∈ (s.berth b).outlets → (s.outlet o).state.energised = true → (s.outlet o).state ≠ .closing →
          (t.outlet o).state = .closing) ∧
        t.GuestsEnded s y ∧
        t.KeepsBut s [.answers, .register, .engine, .clock, .notices, .power, .water, .link, .access]) ∧
    ((s.stay y).state ≠ .arrived → s.Refuses (.depart h w) h 0x16 .state 0)

/-- MOVE takes an ARRIVED stay to an eligible berth and clears the berth it leaves, with no departing stay (R24). The
final-read timeout of an item raises FINAL_READ_ESTIMATED, flags the item ESTIMATED and takes it from the set, and the
clearing ends with DEPARTED when it was the last (R22, R23). That an expiry stands at its own time, t.now = max s.now e,
is the model's choice (log entry 6). -/
def Obligations.MoveAndFinalReadTimeout : Prop :=
  ∀ (s : State),
    (∀ (h : ReqHeader) (y : StayId) (b c : BerthId) (w : List Byte), s.Takes h 0x17 w → rd w 0 2 = y.val →
      rd w 2 2 = c.val → (s.stay y).state = .arrived → (s.stay y).berth = some b → b ≠ c →
      firstFailing (eligibility s (s.stay y).settings.fit c (s.ownClassOn y c)) = none →
      ∃ t, exec (.move h w) s = .next t ∧ t.Replies s h 0x17 (.done []) ∧
        t.stay y = { s.stay y with berth := some c } ∧
        t.berth c = { s.berth c with state := .occupied, currentStay := some y } ∧
        (t.berth b).currentStay = none ∧ (t.berth b).departingStay = none ∧
        (t.berth b).state = (if s.outletsToRead b = [] ∧ s.tapToRead b = none then .free else .clearing) ∧
        (∀ z, z ≠ y → t.stay z = s.stay z) ∧ (∀ d, d ≠ b → d ≠ c → t.berth d = s.berth d) ∧
        t.KeepsBut s [.answers, .register, .engine, .clock, .notices, .power, .water, .link]) ∧
    (∀ (h : ReqHeader) (y : StayId) (b c : BerthId) (n : Nat) (w : List Byte), s.Takes h 0x17 w → rd w 0 2 = y.val →
      rd w 2 2 = c.val → (s.stay y).state = .arrived → (s.stay y).berth = some b →
      firstFailing (eligibility s (s.stay y).settings.fit c (s.ownClassOn y c)) = some n →
      s.Refuses (.move h w) h 0x17 (if n = 1 then .state else if n = 7 then .full else .badValue) n) ∧
    (∀ (b : BerthId) (i : ReadItem) (e : Nat), s.part.condition = .running → (s.berth b).state = .clearing →
      (∀ o, i = .outlet o → (s.outlet o).berth = some b) → (∃ r ∈ (s.berth b).outstanding, r.item = i) →
      (∀ r ∈ (s.berth b).outstanding, r.item = i → r.endAt = e) →
      ∃ t, exec (.finalReadTimeout b i) s = .next t ∧ t.now = max s.now e ∧
        (s.trunk.notices.length < 64 →
          ({ note := .finalReadEstimated b i, time := s.stamp } : Notice) ∈ t.trunk.notices) ∧
        (∀ o, i = .outlet o → (t.outlet o).estimated = true) ∧
        (∀ a, i = .tap a →
          (t.tap a).estimated = true ∧ (t.tap a).allowanceStay = none ∧ (t.tap a).finalOwed = (s.tap a).finalOwed) ∧
        (∀ r ∈ (t.berth b).outstanding, r.item ≠ i) ∧
        ((∀ r ∈ (s.berth b).outstanding, r.item = i) →
          (t.berth b).state = .free ∧ (t.berth b).departingStay = none ∧ (t.berth b).estimated = 0 ∧
          t.engine.resubmit = min 240 (s.engine.resubmit + 1) ∧
          (∀ y, t.stay y = if (s.berth b).departingStay = some y then Stay.emptied else s.stay y) ∧
          ∀ y, (s.berth b).departingStay = some y → s.trunk.notices.length < 63 →
            ({ note := .departed y b (s.stay y).settings.account ((s.berth b).estimated + 1), time := s.stamp } : Notice)
              ∈ t.trunk.notices) ∧
        ((∃ r ∈ (s.berth b).outstanding, r.item ≠ i) →
          (t.berth b).state = .clearing ∧ (t.berth b).estimated = (s.berth b).estimated + 1 ∧
          (t.berth b).departingStay = (s.berth b).departingStay ∧ t.register.stays = s.register.stays) ∧
        (∀ c, c ≠ b → t.berth c = s.berth c) ∧
        t.KeepsBut s [.part, .register, .engine, .clock, .notices, .power, .water, .link])

/-! ### The Fit Engine (R25 to R35) -/

/-- ALLOCATE queues a stay of the arrivals list and answers QUEUED; with an idle scan its attempt begins at once. A stay
already queued is answered QUEUED with nothing changed, a full queue BUSY, a stay not on the list is refused NOT_WAITING,
and a stay id above 255 BAD_VALUE (R26, R27, R30). -/
def Obligations.AllocateQueuesAWaitingStay : Prop :=
  ∀ (s : State) (h : ReqHeader) (w : List Byte), s.Takes h 0x1A w →
    (256 ≤ rd w 0 2 → s.Refuses (.allocate h w) h 0x1A .badValue 0) ∧
    ∀ y : StayId, rd w 0 2 = y.val →
    (y ∉ s.arrivals → s.Refuses (.allocate h w) h 0x1A .notWaiting 0) ∧
    (y ∈ s.arrivals → s.fitQueued y = true → ∃ t, exec (.allocate h w) s = .next t ∧ t.Replies s h 0x1A .queued ∧
      t.KeepsBut s [.answers]) ∧
    (y ∈ s.arrivals → s.fitQueued y = false → 4 ≤ s.engine.queue.length →
      ∃ t, exec (.allocate h w) s = .next t ∧ t.Replies s h 0x1A .busy ∧ t.KeepsBut s [.answers]) ∧
    (y ∈ s.arrivals → s.fitQueued y = false → s.engine.queue.length < 4 →
      ∃ t, exec (.allocate h w) s = .next t ∧ t.Replies s h 0x1A .queued ∧
        t.engine.queue = s.engine.queue ++ [{ stay := y, source := .office }] ∧
        t.engine.leadMarks = s.engine.leadMarks ∧ t.engine.resubmit = s.engine.resubmit ∧
        (s.engine.scan.isSome = true → t.engine.scan = s.engine.scan) ∧
        (s.engine.scan = none → s.engine.queue = [] →
          t.engine.scan = some { attempt := 1, position := 0, walked := false, captured := (s.stay y).settings.fit,
                                 best := none, freeSeen := 0 }) ∧
        t.KeepsBut s [.answers, .engine])

/-- LEAD_SUBMISSION sets the lead mark of every due stay that has an entry, and, with a free place and no resubmission left,
queues the first due stay of the arrivals list that has none, with its mark set (R27, R28). A stay is due by the clock as it
stands, or because a clock event has met its deadline, which then stays met (R185); that the least allocation lead so met is
kept is the model's choice (log entry 34). RESUBMISSION queues the first UNPLACED stay that
has no entry and lowers the resubmit count, which becomes 0 when there is none (R29). -/
def Obligations.LeadSubmissionAndResubmission : Prop :=
  ∀ (s : State), s.part.condition = .running →
    (∀ y : StayId, s.leadDue y = true ↔ s.clock.isSet = true ∧ y ∈ s.arrivals ∧ s.engine.leadMarks[y] = false ∧
      ((s.stay y).settings.arrival ≤ s.clock.value + s.settings.lead * 3600 ∨
        ∃ l, (s.stay y).leadMet = some l ∧ l ≤ s.settings.lead) ∧ (s.stay y).lapseMet = false) ∧
    (∀ y more, s.engine.queue.length < 4 → s.engine.resubmit = 0 →
      (s.arrivals.filter s.leadDue).filter (fun z => !s.fitQueued z) = y :: more →
      ∃ t, exec .leadSubmission s = .next t ∧ t.engine.queue = s.engine.queue ++ [{ stay := y, source := .lead }] ∧
        (∀ z : StayId, t.engine.leadMarks[z] =
          (s.engine.leadMarks[z] || decide (z = y) || (s.leadDue z && s.fitQueued z))) ∧
        t.engine.resubmit = 0 ∧ t.KeepsBut s [.engine]) ∧
    (4 ≤ s.engine.queue.length ∨ s.engine.resubmit > 0 ∨
        (s.arrivals.filter s.leadDue).filter (fun z => !s.fitQueued z) = [] →
      ∃ t, exec .leadSubmission s = .next t ∧ t.engine.queue = s.engine.queue ∧ t.engine.scan = s.engine.scan ∧
        (∀ z : StayId, t.engine.leadMarks[z] = (s.engine.leadMarks[z] || (s.leadDue z && s.fitQueued z))) ∧
        t.engine.resubmit = s.engine.resubmit ∧ t.KeepsBut s [.engine, .clock, .notices]) ∧
    (∀ y before after, s.engine.queue.length < 4 → s.engine.resubmit > 0 → s.arrivals = before ++ y :: after →
      (∀ z ∈ before, (s.stay z).unplaced = false ∨ s.fitQueued z = true) → (s.stay y).unplaced = true →
      s.fitQueued y = false →
      ∃ t, exec .resubmission s = .next t ∧ t.engine.queue = s.engine.queue ++ [{ stay := y, source := .resubmit }] ∧
        t.engine.resubmit = s.engine.resubmit - 1 ∧ t.engine.leadMarks = s.engine.leadMarks ∧ t.KeepsBut s [.engine]) ∧
    (s.engine.queue.length < 4 → s.engine.resubmit > 0 →
      (∀ y ∈ s.arrivals, (s.stay y).unplaced = false ∨ s.fitQueued y = true) →
      ∃ t, exec .resubmission s = .next t ∧ t.engine = { s.engine with resubmit := 0 } ∧
        t.KeepsBut s [.engine, .clock, .notices])

/-- A scan step tests the berth at its position against the captured values: it counts a FREE berth, an eligible one with
a score lower than the best replaces it, and the position moves on (R30, R31). After the walk the attempt completes: no
candidate marks the stay UNPLACED with NO_FIT (R34); a candidate that is still eligible is held for it with STAY_PLACED
(R32); one that is no longer starts attempt 2, and after attempt 2 raises CONTENDED (R33). -/
def Obligations.ScanStepsAndCompletion : Prop :=
  ∀ (s : State) (x : Scan), s.part.condition = .running → s.engine.scan = some x →
    (x.walked = false → ∃ t y, exec .scanStep s = .next t ∧ t.engine = { s.engine with scan := some y } ∧
      t.KeepsBut s [.engine] ∧
      y.attempt = x.attempt ∧ y.captured = x.captured ∧
      y.position.val = (if x.position.val < 239 then x.position.val + 1 else 239) ∧
      y.walked = decide (x.position.val = 239) ∧
      y.freeSeen = x.freeSeen + (if (s.berth x.position).state = .free then 1 else 0) ∧
      (firstFailing (eligibility s x.captured x.position 0) ≠ none → y.best = x.best) ∧
      (firstFailing (eligibility s x.captured x.position 0) = none →
        let score := ((s.berth x.position).maxLoa - x.captured.loa) + 2 * ((s.berth x.position).maxBeam - x.captured.beam)
        (x.best = none → y.best = some (x.position, score)) ∧
        (∀ c n, x.best = some (c, n) → y.best = if score < n then some (x.position, score) else some (c, n)))) ∧
    ∀ (e : FitEntry) (rest : List FitEntry), x.walked = true → s.engine.queue = e :: rest →
    (x.best = none → ∃ t, exec .attemptComplete s = .next t ∧
      t.stay e.stay = { s.stay e.stay with unplaced := true } ∧ t.engine.queue = rest ∧
      (s.trunk.notices.length < 64 →
          ({ note := .noFit e.stay e.source x.attempt x.freeSeen, time := s.stamp } : Notice) ∈ t.trunk.notices) ∧
      t.register.berths = s.register.berths ∧ t.arrivals = s.arrivals ∧
      t.KeepsBut s [.register, .engine, .clock, .notices]) ∧
    (∀ b n, x.best = some (b, n) → firstFailing (eligibility s (s.stay e.stay).settings.fit b 0) = none →
      ∃ t, exec .attemptComplete s = .next t ∧ t.engine.queue = rest ∧
        t.stay e.stay = { s.stay e.stay with berth := some b, unplaced := false } ∧
        t.berth b = { s.berth b with state := .held, currentStay := some e.stay } ∧
        t.arrivals = s.arrivals.filter (· ≠ e.stay) ∧
        (s.trunk.notices.length < 64 →
          ({ note := .stayPlaced e.stay b n e.source, time := s.stamp } : Notice) ∈ t.trunk.notices) ∧
        t.KeepsBut s [.register, .engine, .clock, .notices]) ∧
    (∀ b n f, x.best = some (b, n) → firstFailing (eligibility s (s.stay e.stay).settings.fit b 0) = some f →
      (x.attempt = 1 → ∃ t, exec .attemptComplete s = .next t ∧ t.engine.queue = s.engine.queue ∧
        t.engine.scan = some { attempt := 2, position := 0, walked := false, captured := (s.stay e.stay).settings.fit,
                               best := none, freeSeen := 0 } ∧ t.KeepsBut s [.engine]) ∧
      (x.attempt ≠ 1 → ∃ t, exec .attemptComplete s = .next t ∧ t.engine.queue = rest ∧
        (s.trunk.notices.length < 64 →
          ({ note := .contended e.stay .recheck (some b) f, time := s.stamp } : Notice) ∈ t.trunk.notices) ∧
        t.KeepsBut s [.engine, .clock, .notices]))

/-! ### Holds, sales and the journal (R48, R140, R142) -/

/-- Every step keeps each held total the sum of the account's holds (R48), a sale and its hold slot exactly with the
dispensers that have a sale (R142), a dispenser's slot with its owner and without an expiry (R48, R51), the available credit
of an account that is not EXHAUSTED at 0 or above (R41), and journal and open sales within the journal's 32 places (R140). -/
def Obligations.EveryStepKeepsSalesSound : Prop :=
  ∀ s t : State, s.SalesSound → step s = .next t → t.SalesSound

/-! ### Accounts, holds and the nightly pass (R38 to R61) -/

/-- OPEN ACCOUNT opens a CLOSED account with balance 0, its residues 0 and SATURATED clear; WRITE RECORD replaces the
settings part of an account that is not CLOSED; both evaluate the flags (R39, R40, R41, R42). -/
def Obligations.OpenAndWriteAccount : Prop :=
  ∀ (s : State) (h : ReqHeader) (a : AccountId) (w : List Byte) (v : AccountSettings),
    checkAccount (rdAccount (w.drop 2)) = some v →
    (s.Takes h 0x20 w → rd w 0 2 = a.val → (s.account a).state = .closed → (s.account a).balance = 0 →
      ∃ t, exec (.openAccount h w) s = .next t ∧ t.Replies s h 0x20 (.done []) ∧
        t.account a = Account.evaluated
          { s.account a with
            kind := v.kind, creditLimit := v.creditLimit, adjustment := v.adjustment, lowThreshold := v.lowThreshold,
            restoreMargin := v.restoreMargin, state := .open, residuePower := 0, residueWater := 0, residueFuel := 0,
            residueBerth := 0, saturated := false } ∧
        (∀ c, c ≠ a → t.account c = s.account c) ∧ t.ledger.holds = s.ledger.holds ∧ t.ledger.tariff = s.ledger.tariff ∧
        t.KeepsBut s [.answers, .ledger, .notices, .power, .water, .link]) ∧
    (s.Takes h 0x20 w → rd w 0 2 = a.val → (s.account a).state ≠ .closed ∨ (s.account a).balance ≠ 0 →
      s.Refuses (.openAccount h w) h 0x20 .state 0) ∧
    (s.Writes h .account w a.val → (s.account a).state ≠ .closed →
      ∃ t, exec (.writeAccountRecord h w) s = .next t ∧ t.Replies s h 0x05 (.done []) ∧
        t.account a = Account.evaluated
          { s.account a with
            kind := v.kind, creditLimit := v.creditLimit, adjustment := v.adjustment, lowThreshold := v.lowThreshold,
            restoreMargin := v.restoreMargin } ∧
        (∀ c, c ≠ a → t.account c = s.account c) ∧ t.ledger.holds = s.ledger.holds ∧ t.ledger.tariff = s.ledger.tariff ∧
        t.KeepsBut s [.answers, .ledger, .notices, .power, .water, .link]) ∧
    (s.Writes h .account w a.val → (s.account a).state = .closed →
      s.Refuses (.writeAccountRecord h w) h 0x05 .state 0)

/-- SUSPEND ACCOUNT suspends an OPEN account, and where it was not EXHAUSTED and the grace time is not 0, each ON outlet
that bills it enters GRACE (R43, R44, R101); RESUME ACCOUNT opens a SUSPENDED one; CLOSE ACCOUNT closes an account that
nothing names, and announces nothing (R45). An account is named by a stay that is not EMPTY, by a hold, by a credential, and as
the billing account of an energised outlet or an OPEN tap (R45); it is in credit stop while it is OPEN with EXHAUSTED set, or
SUSPENDED (R43). -/
def Obligations.SuspendResumeAndCloseAccount : Prop :=
  (∀ (s : State) (a : AccountId),
    (s.accountNamed a = true ↔
      (∃ y, (s.stay y).state ≠ .empty ∧ (s.stay y).settings.account = a) ∨
      (∃ k x, s.holdSlot k = some x ∧ x.account = a) ∨
      (∃ i c, s.credential i = some c ∧ c.account = some a) ∨
      (∃ o, (s.outlet o).state ∈ [.starting, .on, .grace, .resync, .closing] ∧ (s.outlet o).billing = some a) ∨
      ∃ p, (s.tap p).state = .open ∧ (s.tap p).billing = some a) ∧
    (s.inCreditStop a = true ↔
      ((s.account a).state = .open ∧ (s.account a).exhausted = true) ∨ (s.account a).state = .suspended)) ∧
  ∀ (s : State) (h : ReqHeader) (a : AccountId) (w : List Byte), rd w 0 2 = a.val →
    (s.Takes h 0x21 w → (s.account a).state = .open → ∃ t, exec (.suspendAccount h w) s = .next t ∧
      t.Replies s h 0x21 (.done []) ∧ t.ledger = (s.setAccount a { s.account a with state := .suspended }).ledger ∧
      (∀ o, (s.account a).exhausted = false → s.settings.graceTime ≠ 0 → (s.outlet o).state = .on →
        (s.outlet o).billing = some a →
        (t.outlet o).state = .grace ∧ (t.outlet o).graceTimer = some (s.now + s.settings.graceTime * 60000)) ∧
      ((s.account a).exhausted = true → t.power = s.power ∧ t.water = s.water) ∧
      t.KeepsBut s [.answers, .ledger, .power, .water, .link]) ∧
    (s.Takes h 0x21 w → (s.account a).state ≠ .open → s.Refuses (.suspendAccount h w) h 0x21 .state 0) ∧
    (s.Takes h 0x22 w → (s.account a).state = .suspended → ∃ t, exec (.resumeAccount h w) s = .next t ∧
      t.Replies s h 0x22 (.done []) ∧ t.ledger = (s.setAccount a { s.account a with state := .open }).ledger ∧
      ((s.account a).exhausted = true → t.power = s.power ∧ t.water = s.water) ∧
      t.KeepsBut s [.answers, .ledger, .power, .link]) ∧
    (s.Takes h 0x22 w → (s.account a).state ≠ .suspended → s.Refuses (.resumeAccount h w) h 0x22 .state 0) ∧
    (s.Takes h 0x23 w → (s.account a).state ≠ .closed → s.accountNamed a = false →
      ∃ t, exec (.closeAccount h w) s = .next t ∧ t.Replies s h 0x23 (.done []) ∧
        t.ledger = (s.setAccount a { s.account a with state := .closed }).ledger ∧ t.KeepsBut s [.answers, .ledger]) ∧
    (s.Takes h 0x23 w → (s.account a).state ≠ .closed → s.accountNamed a = true →
      s.Refuses (.closeAccount h w) h 0x23 .inUse 0) ∧
    (s.Takes h 0x23 w → (s.account a).state = .closed → s.Refuses (.closeAccount h w) h 0x23 .state 0)

/-- CREDIT raises the balance up to 99,999,999 and DEBIT lowers it down to −99,999,999, with SATURATED for what a bound
cuts off, and answer the new balance and the part not applied; an amount outside 1 to 99,999,999 is refused BAD_VALUE;
CLEAR SATURATED clears the flag (R46, R47). -/
def Obligations.CreditAndDebitWithinTheBounds : Prop :=
  ∀ (s : State) (h : ReqHeader) (a : AccountId) (n : Nat) (w : List Byte), rd w 0 2 = a.val →
    (rd w 2 4 = n →
      (s.Takes h 0x24 w → 1 ≤ n → n ≤ 99999999 → ∃ t, exec (.credit h w) s = .next t ∧
        t.account a = Account.evaluated
          { s.account a with
            balance := min ((s.account a).balance + n) 99999999
            saturated := (s.account a).saturated || decide ((s.account a).balance + n > 99999999) } ∧
        t.Replies s h 0x24 (.done (leInt 4 (min ((s.account a).balance + n) 99999999) ++
          le 4 ((s.account a).balance + n - 99999999).toNat)) ∧
        (∀ c, c ≠ a → t.account c = s.account c) ∧ t.ledger.holds = s.ledger.holds ∧
        t.KeepsBut s [.answers, .ledger, .notices, .power, .water, .link]) ∧
      (s.Takes h 0x25 w → 1 ≤ n → n ≤ 99999999 → ∃ t, exec (.debit h w) s = .next t ∧
        t.account a = Account.evaluated
          { s.account a with
            balance := max ((s.account a).balance - n) (-99999999)
            saturated := (s.account a).saturated || decide ((s.account a).balance - n < -99999999) } ∧
        t.Replies s h 0x25 (.done (leInt 4 (max ((s.account a).balance - n) (-99999999)) ++
          le 4 (-99999999 - ((s.account a).balance - n)).toNat)) ∧
        (∀ c, c ≠ a → t.account c = s.account c) ∧ t.ledger.holds = s.ledger.holds ∧
        t.KeepsBut s [.answers, .ledger, .notices, .power, .water, .link]) ∧
      (n = 0 ∨ 99999999 < n → (s.Takes h 0x24 w → s.Refuses (.credit h w) h 0x24 .badValue 0) ∧
        (s.Takes h 0x25 w → s.Refuses (.debit h w) h 0x25 .badValue 0))) ∧
    (s.Takes h 0x26 w → ∃ t, exec (.clearSaturated h w) s = .next t ∧ t.Replies s h 0x26 (.done []) ∧
      t.ledger = (s.setAccount a { s.account a with saturated := false }).ledger ∧ t.KeepsBut s [.answers, .ledger])

/-- HOLD fills the lowest empty slot of 4 to 15 within the available credit and answers its number; without the credit it
is refused NO_CREDIT, and an expiry whose presence byte is neither 0 nor 1 BAD_VALUE (R49, R193). RELEASE HOLD empties an
office slot (R50). The expiry of a hold empties it with HOLD_EXPIRED (R51), once a clock event has met it, which is the
model's choice (log entry 8). -/
def Obligations.OfficeHolds : Prop :=
  ∀ (s : State) (h : ReqHeader) (k : HoldSlot) (w : List Byte),
    (∀ (a : AccountId) (n : Nat) (e : Option Nat), s.Takes h 0x27 w → rd w 0 2 = a.val → rd w 2 4 = n →
      rdPresent w 6 4 = some e → 1 ≤ n → n ≤ 99999999 → (s.account a).state = .open →
      (n : Int) ≤ (s.account a).available → (s.account a).heldTotal + n ≤ 99999999 →
      (∀ x, e = some x → s.clock.isSet = true ∧ s.clock.value < x) →
      4 ≤ k.val → s.holdSlot k = none → (∀ j : HoldSlot, 4 ≤ j.val → j < k → s.holdSlot j ≠ none) →
      ∃ t, exec (.hold h w) s = .next t ∧ t.Replies s h 0x27 (.done (le 2 k.val)) ∧
        t.holdSlot k = some { account := a, amount := n, owner := .office, placed := s.stamp, expiry := e,
                              expiryMet := false } ∧
        (∀ j, j ≠ k → t.holdSlot j = s.holdSlot j) ∧
        t.account a = Account.evaluated { s.account a with heldTotal := (s.account a).heldTotal + n } ∧
        (∀ c, c ≠ a → t.account c = s.account c) ∧
        t.KeepsBut s [.answers, .ledger, .notices, .power, .water, .link]) ∧
    (∀ (a : AccountId) (n : Nat), s.Takes h 0x27 w → rd w 0 2 = a.val → rd w 2 4 = n → rdPresent w 6 4 = some none →
      1 ≤ n → n ≤ 99999999 → (s.account a).state = .open → (s.account a).available < n →
      s.Refuses (.hold h w) h 0x27 .noCredit 0) ∧
    (s.Takes h 0x27 w → 1 < rd w 6 1 → s.Refuses (.hold h w) h 0x27 .badValue 0) ∧
    (rd w 0 2 = k.val →
      (∀ x, s.Takes h 0x28 w → 4 ≤ k.val → s.holdSlot k = some x →
        ∃ t, exec (.releaseHold h w) s = .next t ∧ t.Replies s h 0x28 (.done []) ∧ t.holdSlot k = none ∧
          (∀ j, j ≠ k → t.holdSlot j = s.holdSlot j) ∧
          t.account x.account =
            Account.evaluated { s.account x.account with heldTotal := (s.account x.account).heldTotal - x.amount } ∧
          (∀ c, c ≠ x.account → t.account c = s.account c) ∧
          t.KeepsBut s [.answers, .ledger, .notices, .power, .water, .link]) ∧
      (s.Takes h 0x28 w → k.val < 4 ∨ s.holdSlot k = none → s.Refuses (.releaseHold h w) h 0x28 .state 0)) ∧
    (∀ x, s.part.condition = .running → s.holdSlot k = some x → x.expiryMet = true →
      ∃ t, exec (.holdExpiry k) s = .next t ∧ t.holdSlot k = none ∧ (∀ j, j ≠ k → t.holdSlot j = s.holdSlot j) ∧
        t.account x.account =
          Account.evaluated { s.account x.account with heldTotal := (s.account x.account).heldTotal - x.amount } ∧
        (s.trunk.notices.length < 62 →
          ({ note := .holdExpired k x.account x.amount, time := s.stamp } : Notice) ∈ t.trunk.notices) ∧
        t.KeepsBut s [.ledger, .notices, .power, .water, .link])

/-- The nightly pass: it begins when the day number has passed the rollover day (R60); each step charges an ARRIVED stay
that has not been charged for the day its metres of length at the berth price, restores its allowance and notes the day
(R55, R60); its end stores the rollover day and raises ROLLOVER_DONE (R61). Model's choices: the pass begins once no met
hold expiry waits (log entry 8), and the subject of CLOCK_JUMP is the free value Config.clockJumpSubject (log entry 20).
-/
def Obligations.NightlyPassChargesArrivedStays : Prop :=
  ∀ (s : State), s.part.condition = .running →
    (∀ d r : Int, s.currentDay = some d → s.ledger.rolloverDay = some r → r < d → s.ledger.pass = none →
      (∀ k x, s.holdSlot k = some x → x.expiryMet = false) →
      ∃ t, exec .nightlyPassStart s = .next t ∧
        t.ledger = { s.ledger with pass := some { day := d, position := 0, walked := false, charged := 0, total := 0 } } ∧
        (d = r + 1 → t.trunk.notices = s.trunk.notices) ∧
        (d > r + 1 → s.trunk.notices.length < 64 → t.trunk.notices = s.trunk.notices ++
          [{ note := .clockJump (Config.clockJumpSubject r d) r d, time := s.stamp }]) ∧
        t.KeepsBut s [.ledger, .notices]) ∧
    (∀ p : NightPass, s.ledger.pass = some p → p.walked = false →
      let y := p.position
      let v := (s.stay y).settings
      let x := s.account v.account
      let price := ((((s.ledger.tariff.berth : Int) * (100 + x.adjustment) + 50) / 100).toNat)
      let metres := (v.loa + 9) / 10
      ((s.stay y).state = .arrived → (s.stay y).lastNight ≠ some p.day → v.loa ≠ 0 →
        ∃ t q, exec .nightlyPassStep s = .next t ∧
          t.stay y = { s.stay y with allowanceLeft := v.allowance, lastNight := some p.day } ∧
          (∀ z, z ≠ y → t.stay z = s.stay z) ∧ t.account v.account = x.charged .berth metres price ∧
          (∀ c, c ≠ v.account → t.account c = s.account c) ∧ t.ledger.pass = some q ∧ q.day = p.day ∧
          q.charged = p.charged + 1 ∧ q.total = p.total + (metres * price + x.residueBerth) / 10000 ∧
          q.walked = decide (y.val = 255) ∧ (y.val < 255 → q.position.val = y.val + 1) ∧
          t.KeepsBut s [.register, .ledger, .notices, .power, .water, .link]) ∧
      ((s.stay y).state ≠ .arrived ∨ (s.stay y).lastNight = some p.day →
        ∃ t q, exec .nightlyPassStep s = .next t ∧ t.ledger = { s.ledger with pass := some q } ∧ q.day = p.day ∧
          q.charged = p.charged ∧ q.total = p.total ∧ q.walked = decide (y.val = 255) ∧
          (y.val < 255 → q.position.val = y.val + 1) ∧ t.KeepsBut s [.ledger])) ∧
    (∀ p : NightPass, s.ledger.pass = some p → p.walked = true →
      ∃ t, exec .rolloverDone s = .next t ∧ t.ledger = { s.ledger with rolloverDay := some p.day, pass := none } ∧
        (s.trunk.notices.length < 64 → t.trunk.notices = s.trunk.notices ++
          [{ note := .rolloverDone p.day p.charged p.total, time := s.stamp }]) ∧
        t.KeepsBut s [.ledger, .notices])

/-! ### Branch ports, polls and relays (R62 to R83, R181) -/

/-- A free port with its line on. A ring slot polls the member at the ring position and moves on; an OFFLINE member is
passed over with its skip count raised, and is probed at the eighth pass (R71, R76). A waiting relay takes the ring slot
unless the mark is set; one whose station is OFFLINE or UNPOLLED is dropped (R78, R80, R81). After as many ring slots as
the ratio gives, the first entry of the attention list that is not OFFLINE is polled and moves to the tail (R72, R77). In
SETUP mode relays alone are sent (R82). Model's choices: the answer timeout counts from the begin of the exchange and an
expiry stands at its own time, t.now = max s.now e (log entry 6); the idle time after a pass of members passed over, and
which slots count (log entry 14). A POLL carries the station's last taken event number with TAKEN_VALID, or TAKEN_VALID clear
where there is none, and the image by the station's kind: a post's switches, limit codes, valves and display code, a reader's
lock and display code, a dispenser's enable, stop, preset and price, and nothing for a feeder monitor (R64, R72, R73, R194). -/
def Obligations.PortChoosesItsSlot : Prop :=
  (∀ x : Station, ∃ p : List Byte,
    x.poll = withCheck ([BitVec.ofNat 8 x.address, 1,
      (match x.lastTaken with | some n => BitVec.ofNat 8 (128 + n.val) | none => 0), BitVec.ofNat 8 p.length] ++ p) ∧
    (∀ m n, x.kind = .post → x.outletCount = some m → x.tapCount = some n →
      p = (x.image.outlets.toList.take m).map (fun i => BitVec.ofNat 8 ((if i.on then 128 else 0) + i.code)) ++
        (x.image.taps.toList.take n).map (fun v => if v then 1 else 0) ++ [BitVec.ofNat 8 x.image.postDisplay]) ∧
    (x.kind = .gateReader → p = [BitVec.ofNat 8 x.image.lock.ctorIdx, BitVec.ofNat 8 x.image.gateDisplay]) ∧
    (x.kind = .dispenser →
      p = BitVec.ofNat 8 ((if x.image.enable then 1 else 0) + (if x.image.stop then 2 else 0)) ::
        (le 4 x.image.preset ++ le 4 x.image.price)) ∧
    (x.kind = .feederMonitor → p = [])) ∧
  ∀ (s : State) (b : BranchId), s.part.condition = .running →
    let polls (t : State) (st : StationId) : Prop :=
      (t.branch b).exchange = some { station := st, kind := .poll, sent := (s.station st).poll,
                                     timeoutAt := s.now + (s.branch b).answerTimeout, replyBegun := false, discard := false }
    let relays (t : State) (e : RelayEntry) : Prop :=
      (t.branch b).exchange = some { station := e.station, kind := .relay, sent := e.telegram (s.station e.station).address,
                                     timeoutAt := s.now + (s.branch b).answerTimeout, replyBegun := false, discard := false }
    let member (a : Nat) (st : StationId) : Prop := (s.ring b).find? (fun m => decide (m.1 = a)) = some (a, st)
    let after (a : Nat) : Option (Nat × StationId) := ((s.ring b).find? (fun m => decide (a < m.1))).or (s.ring b).head?
    let served (st : StationId) : Prop := (s.station st).state ≠ .offline ∧ (s.station st).state ≠ .unpolled
    let others (t : State) : Prop := (∀ c, c ≠ b → t.branch c = s.branch c) ∧
      (t.branch b).rateCode = (s.branch b).rateCode ∧ (t.branch b).missLimit = (s.branch b).missLimit ∧
      (t.branch b).answerTimeout = (s.branch b).answerTimeout ∧ (t.branch b).ratio = (s.branch b).ratio
    (∀ e, (s.branch b).idleUntil = some e → ∃ t, exec (.ringIdleTimeout b) s = .next t ∧ t.now = max s.now e ∧
      t.branch b = { s.branch b with idleUntil := none } ∧ (∀ c, c ≠ b → t.branch c = s.branch c) ∧
      t.link.stations = s.link.stations ∧ t.KeepsBut s [.part, .link]) ∧
    ((s.branch b).activeRate ≠ 0 → (s.branch b).exchange = none → (s.branch b).idleUntil = none →
      (∀ before st rest, s.trunk.mode = .run → (s.branch b).ratio ≤ (s.branch b).slotCount →
        (s.branch b).attention = before ++ st :: rest → (∀ z ∈ before, (s.station z).state = .offline) →
        (s.station st).state ≠ .offline →
        ∃ t, exec (.slotSelection b) s = .next t ∧ polls t st ∧ (t.branch b).attention = rest ++ before ++ [st] ∧
          (t.branch b).slotCount = 0 ∧ (t.branch b).ringPosition = (s.branch b).ringPosition ∧
          (t.branch b).relays = (s.branch b).relays ∧ (t.branch b).relayMark = (s.branch b).relayMark ∧
          t.link.stations = s.link.stations ∧ others t ∧ t.KeepsBut s [.link]) ∧
      (s.trunk.mode = .run → (s.branch b).slotCount < (s.branch b).ratio →
        (s.branch b).relays = [] ∨ (s.branch b).relayMark = true → ∀ a st, (s.branch b).ringPosition = some a →
        member a st →
        ((s.station st).state ≠ .offline →
          ∃ t, exec (.slotSelection b) s = .next t ∧ polls t st ∧ (t.branch b).ringPosition = (after a).map (·.1) ∧
            (t.branch b).slotCount = (s.branch b).slotCount + 1 ∧ (t.branch b).relayMark = false ∧
            (t.branch b).attention = (s.branch b).attention ∧ (t.branch b).relays = (s.branch b).relays ∧
            t.link.stations = s.link.stations ∧ others t ∧ t.KeepsBut s [.link]) ∧
        ((s.station st).state = .offline → 8 ≤ (s.station st).skip + 1 →
          ∃ t, exec (.slotSelection b) s = .next t ∧ polls t st ∧ (t.branch b).ringPosition = (after a).map (·.1) ∧
            (t.branch b).slotCount = (s.branch b).slotCount + 1 ∧ t.station st = { s.station st with skip := 0 } ∧
            (∀ i, i ≠ st → t.station i = s.station i) ∧ others t ∧ t.KeepsBut s [.link]) ∧
        (∀ a2 st2, (s.station st).state = .offline → (s.station st).skip + 1 < 8 → after a = some (a2, st2) →
          (s.branch b).passServed = true ∨ a < a2 → (s.station st2).state ≠ .offline →
          ∃ t, exec (.slotSelection b) s = .next t ∧ polls t st2 ∧ (t.branch b).ringPosition = (after a2).map (·.1) ∧
            (t.branch b).slotCount = (s.branch b).slotCount + 1 ∧
            t.station st = { s.station st with skip := (s.station st).skip + 1 } ∧
            (∀ i, i ≠ st → t.station i = s.station i) ∧ others t ∧ t.KeepsBut s [.link]) ∧
        ((s.station st).state = .offline → (s.station st).skip + 1 < 8 → (∀ m ∈ s.ring b, m.1 ≤ a) →
          (s.branch b).passServed = false →
          ∃ t, exec (.slotSelection b) s = .next t ∧ (t.branch b).exchange = none ∧
            (t.branch b).idleUntil = some (s.now + (s.branch b).answerTimeout) ∧
            (t.branch b).slotCount = (s.branch b).slotCount ∧
            t.station st = { s.station st with skip := (s.station st).skip + 1 } ∧
            (∀ i, i ≠ st → t.station i = s.station i) ∧ others t ∧ t.KeepsBut s [.link])) ∧
      (∀ before e rest, (s.branch b).relays = before ++ e :: rest → (∀ z ∈ before, ¬ served z.station) → served e.station →
        (s.trunk.mode = .run → (s.branch b).slotCount < (s.branch b).ratio ∧ (s.branch b).relayMark = false) →
        ∃ t, exec (.slotSelection b) s = .next t ∧ relays t e ∧ (t.branch b).relays = e :: rest ∧
          (s.trunk.mode = .run → (t.branch b).slotCount = (s.branch b).slotCount + 1 ∧ (t.branch b).relayMark = true) ∧
          (s.trunk.mode = .setup → (t.branch b).slotCount = (s.branch b).slotCount ∧
            (t.branch b).relayMark = (s.branch b).relayMark) ∧
          (t.branch b).attention = (s.branch b).attention ∧ (t.branch b).ringPosition = (s.branch b).ringPosition ∧
          (s.trunk.notices.length + before.length ≤ 64 → t.trunk.notices = s.trunk.notices ++ before.map (fun z =>
            { note := .relayDropped z.station z.code z.tag .offline, time := s.stamp })) ∧
          t.link.stations = s.link.stations ∧ others t ∧ t.KeepsBut s [.link, .notices]) ∧
      (s.trunk.mode = .setup → (s.branch b).relays = [] →
        ∃ t, exec (.slotSelection b) s = .next t ∧ t.KeepsBut s []))

/-- The end of an exchange without a report: a POLL with no good answer is a miss, which at the miss limit makes the
station OFFLINE with its notice, whether a bad reply or none came (R65, R66, R70); a RELAY with no good answer ends with
RELAY_TIMEOUT, cause NO_REPLY or BAD_REPLY, and a good answer with RELAY_ANSWER, and leaves the queue (R80); the first
character of a reply ends the wait (R65). At the end of an exchange with a station whose disabling waits on it, the reply is not
judged: the disabling takes effect, and the station is UNPOLLED with its counts at 0, off the attention list, its last taken
event number as it stood (R68). Model's choices: the answer timeout is taken at its own time, t.now = max s.now x.timeoutAt (log
entry 6), and the disabling that waits keeps the branch and address of its exchange (log entry 16). -/
def Obligations.ExchangeEndsWithoutAReport : Prop :=
  ∀ (s : State) (b : BranchId) (x : Exchange), s.part.condition = .running → (s.branch b).exchange = some x →
    (∃ t, exec (.replyBegin b) s = .next t ∧ t.branch b = { s.branch b with exchange := some { x with replyBegun := true } } ∧
      (∀ c, c ≠ b → t.branch c = s.branch c) ∧ t.link.stations = s.link.stations ∧ t.KeepsBut s [.link]) ∧
    (x.discard = true → (s.branch b).activeRate = (s.branch b).rateCode → ∀ a,
      (s.station x.station).leaving = some (b, a) →
      let gone (t : State) : Prop :=
        (t.branch b).exchange = none ∧ (t.branch b).relays = (s.branch b).relays ∧
        (t.branch b).attention = (s.branch b).attention.filter (· ≠ x.station) ∧
        t.station x.station =
          { s.station x.station with state := .unpolled, miss := 0, skip := 0, leaving := none } ∧
        (∀ i, i ≠ x.station → t.station i = s.station i) ∧ (∀ c, c ≠ b → t.branch c = s.branch c)
      (x.replyBegun = false → ∃ t, exec (.answerTimeout b) s = .next t ∧ t.now = max s.now x.timeoutAt ∧ gone t ∧
        t.KeepsBut s [.part, .link, .power, .water, .fuel, .access]) ∧
      ∀ reply, ∀ c ∈ [Instr.badReply b reply, .relayAnswer b reply, .postReport b reply, .gateReaderReport b reply,
          .dispenserReport b reply, .feederMonitorReport b reply],
        ∃ t, exec c s = .next t ∧ gone t ∧ t.KeepsBut s [.link, .power, .water, .fuel, .access]) ∧
    (x.discard = false → (s.station x.station).leaving = none → (s.branch b).activeRate = (s.branch b).rateCode →
      (x.kind = .poll → (s.station x.station).state ≠ .offline →
        let n := min 7 ((s.station x.station).miss + 1)
        let missed (t : State) : Prop :=
          t.branch b = { s.branch b with exchange := none } ∧
          t.station x.station = { s.station x.station with miss := n } ∧ ∀ i, i ≠ x.station → t.station i = s.station i
        let lost (t : State) : Prop :=
          (t.branch b).exchange = none ∧ (t.station x.station).state = .offline ∧ (t.station x.station).skip = 0 ∧
          (t.station x.station).miss = n ∧
          (s.trunk.notices.length < 64 → t.trunk.notices = s.trunk.notices ++
            [{ note := .stationOffline x.station (s.station x.station).branch (s.station x.station).address
                 (s.station x.station).state, time := s.stamp }])
        (n < (s.branch b).missLimit → x.replyBegun = false → ∃ t, exec (.answerTimeout b) s = .next t ∧
          t.now = max s.now x.timeoutAt ∧ missed t ∧ t.KeepsBut s [.part, .link]) ∧
        (∀ reply, n < (s.branch b).missLimit → (s.station x.station).goodReport reply = none →
          ∃ t, exec (.badReply b reply) s = .next t ∧ missed t ∧ t.KeepsBut s [.link]) ∧
        ((s.branch b).missLimit ≤ n → x.replyBegun = false → ∃ t, exec (.answerTimeout b) s = .next t ∧
          t.now = max s.now x.timeoutAt ∧ lost t ∧
          t.KeepsBut s [.part, .link, .notices, .power, .water, .fuel, .access]) ∧
        (∀ reply, (s.branch b).missLimit ≤ n → (s.station x.station).goodReport reply = none →
          ∃ t, exec (.badReply b reply) s = .next t ∧ lost t ∧
            t.KeepsBut s [.link, .notices, .power, .water, .fuel, .access])) ∧
      (∀ e rest, x.kind = .relay → (s.branch b).relays = e :: rest →
        let ended (t : State) (note : Note) : Prop :=
          t.branch b = { s.branch b with exchange := none, relays := rest } ∧
          (∀ c, c ≠ b → t.branch c = s.branch c) ∧ t.link.stations = s.link.stations ∧
          (s.trunk.notices.length < 64 → t.trunk.notices = s.trunk.notices ++ [{ note := note, time := s.stamp }])
        (x.replyBegun = false → ∃ t, exec (.answerTimeout b) s = .next t ∧ t.now = max s.now x.timeoutAt ∧
          ended t (.relayTimeout e.station e.code e.tag .noReply) ∧ t.KeepsBut s [.part, .link, .notices]) ∧
        (∀ reply, replyParts (s.station x.station).address kindRelayAnswer reply = none →
          ∃ t, exec (.badReply b reply) s = .next t ∧ ended t (.relayTimeout e.station e.code e.tag .badReply) ∧
            t.KeepsBut s [.link, .notices]) ∧
        (∀ reply status payload,
          replyParts (s.station x.station).address kindRelayAnswer reply = some (status, payload) →
          ∃ t, exec (.relayAnswer b reply) s = .next t ∧
            ended t (.relayAnswer e.station e.code status.toNat e.tag payload) ∧ t.KeepsBut s [.link, .notices])))

/-- A good report of a post makes its station ONLINE with no miss, and each of its outlets and taps takes its new counter
(R69, R70, R88, R105, R127, R128); where a post with one outlet reports it ON, its account is charged the counter's
increase at the power price (R54, R55, R105), and where it reports a plug that its deglitch takes as inserted, an EXPECTED stay
with AUTO_ARRIVE that holds the outlet's berth arrives by PLUG, whatever the state of the outlet (R18, R89). That it arrives at a
LOCKED outlet is the model's choice (log entry 37). Where the station was not ONLINE, each dispenser that names it stops its
settle timer (R148) and each gate that names it takes its door as UNKNOWN (R160): that they do so for a post is the model's
choice (log entry 42). The power price is that of the day band, which is the whole day where
its start is its end, or while the clock is unset, and else that of the night (R54).

For a good report of any kind, first the event byte (R74): STARTED with the start-noted flag clear forgets the last taken number,
sets the flag and raises STATION_STARTED, and STARTED clear clears the flag; an event with another number than the last taken is
taken, with EVENT_GAP where numbers have been skipped, and its number becomes the last taken; an event already taken is not handed
on, so that a gate of a closed door stands as it stood. That each of the four report rows takes such a report by its bytes, whatever
the row's own name, is the model's choice (log entry 32). -/
def Obligations.PostReportReadsTheMeters : Prop :=
  (∀ s : State,
    let v := s.ledger.tariff
    let now := s.clock.value % 86400
    let day := v.dayStart = v.dayEnd ∨ (v.dayStart < v.dayEnd ∧ v.dayStart ≤ now ∧ now < v.dayEnd) ∨
      (v.dayEnd < v.dayStart ∧ (v.dayStart ≤ now ∨ now < v.dayEnd))
    (s.clock.isSet = false ∨ day → s.powerPrice = v.powerDay) ∧
    (s.clock.isSet = true → ¬ day → s.powerPrice = v.powerNight)) ∧
  (∀ (s : State) (b : BranchId) (st : StationId) (reply : List Byte) (ev : EventByte) (r : Report),
    s.Polled b st reply ev r →
    ∀ c ∈ [Instr.postReport b reply, .gateReaderReport b reply, .dispenserReport b reply, .feederMonitorReport b reply],
    let fresh := ev.started && !(s.station st).startNoted
    let last := if fresh then none else (s.station st).lastTaken
    let skipped (l : Fin 16) : Nat := (ev.number.val + 15 - l.val) % 16
    ∃ t, exec c s = .next t ∧ (t.branch b).exchange = none ∧ (t.station st).state = .online ∧ (t.station st).miss = 0 ∧
      (t.station st).startNoted = ev.started ∧
      (t.station st).lastTaken = (if ev.event then some ev.number else last) ∧
      (fresh = true → s.trunk.notices.length < 62 →
        ({ note := .stationStarted st, time := s.stamp } : Notice) ∈ t.trunk.notices) ∧
      (∀ l, ev.event = true → last = some l → ev.number ≠ l → skipped l ≠ 0 → s.trunk.notices.length < 62 →
        ({ note := .eventGap st l.val (skipped l), time := s.stamp } : Notice) ∈ t.trunk.notices) ∧
      (∀ isOpen e, r = .reader isOpen e → s.gateAt st = none → (s.station st).state = .online →
        s.trunk.notices.length < 63 → t.trunk.notices = s.trunk.notices ++
          (if fresh then [{ note := .stationStarted st, time := s.stamp }] else []) ++
          (match last with
           | some l => if ev.event = true ∧ ev.number ≠ l ∧ skipped l ≠ 0
                       then [{ note := .eventGap st l.val (skipped l), time := s.stamp }] else []
           | none => [])) ∧
      (∀ g e, r = .reader false e → s.gateAt st = some g → (s.station st).state = .online → (s.gate g).door = .closed →
        last = some ev.number → t.access = s.access)) ∧
  ∀ (s : State) (b : BranchId) (x : Exchange) (reply : List Byte) (ev : EventByte) (outs : List OutletEntry)
    (taps : List TapEntry) (toggle : Option (Fin 2)), s.part.condition = .running → (s.branch b).exchange = some x →
    x.kind = .poll → x.discard = false → (s.station x.station).leaving = none →
    (s.branch b).activeRate = (s.branch b).rateCode →
    (s.station x.station).goodReport reply = some (ev, .post outs taps toggle) →
    ∃ t, exec (.postReport b reply) s = .next t ∧ (t.branch b).exchange = none ∧
      (t.station x.station).state = .online ∧ (t.station x.station).miss = 0 ∧
      (∀ (k : Fin 4) o e, s.outletAt x.station k = some o → outs[k.val]? = some e →
        (t.outlet o).baseline = some e.energy ∧ (t.outlet o).lastCurrent = e.current) ∧
      (∀ (k : Fin 2) a e, s.tapAt x.station k = some a → taps[k.val]? = some e → (t.tap a).baseline = some e.flow) ∧
      (∀ o e old c, outs = [e] → taps = [] → s.outletAt x.station 0 = some o → (s.outlet o).state = .on →
        (s.outlet o).baseline = some old → (s.outlet o).billing = some c → (e.energy - old).toNat ≤ 5000 →
        t.account c = (s.account c).charged .power (e.energy - old).toNat
          ((((s.powerPrice : Int) * (100 + (s.account c).adjustment) + 50) / 100).toNat)) ∧
      (∀ o e w y, outs = [e] → taps = [] → s.outletAt x.station 0 = some o → e.plug = true →
        (s.outlet o).plugTaken = false → s.settings.deglitch ≤ (s.outlet o).deglitch + 1 →
        (s.outlet o).berth = some w → (s.berth w).state = .held → (s.berth w).currentStay = some y →
        (s.stay y).state = .expected → (s.stay y).berth = some w → (s.stay y).settings.autoArrive = true →
        (t.stay y).state = .arrived ∧ (t.stay y).lastNight = s.currentDay ∧
        (t.stay y).allowanceLeft = (s.stay y).settings.allowance ∧ (t.berth w).state = .occupied ∧
        (s.trunk.notices.length < 48 → ∃ n ∈ t.trunk.notices, n.note = .stayArrived y w .plug)) ∧
      (∀ d, t.dispenser d =
        if (s.dispenser d).station = some x.station ∧ (s.station x.station).state ≠ .online
        then { s.dispenser d with settleTimer := none } else s.dispenser d) ∧
      (∀ g, t.gate g =
        if (s.gate g).reader = some x.station ∧ (s.station x.station).state ≠ .online
        then { s.gate g with door := .unknown, heldTimer := none } else s.gate g) ∧
      t.fuel.tanks = s.fuel.tanks ∧ t.fuel.journal = s.fuel.journal ∧ t.fuel.nextSale = s.fuel.nextSale ∧
      t.access.credentials = s.access.credentials ∧ t.access.officeRelease = s.access.officeRelease ∧
      t.access.log = s.access.log ∧ t.access.nextPosition = s.access.nextPosition ∧
      t.access.nextSequence = s.access.nextSequence ∧
      t.KeepsBut s [.part, .clock, .notices, .register, .engine, .ledger, .link, .power, .water, .fuel, .access] ∧
      t.part = { s.part with draws := t.part.draws }

/-- A good report of a gate reader: the door is taken as reported; an opening of a LOCKED gate is forced, one of an UNLOCKED
gate completes its oldest passage; the exit button and a card for OUT open a gate for one passage, and a card for IN is
granted or denied with its reason (R160 to R164). The grant time is the marina clock's: the model's choice (log entry 43).
A good report of a dispenser, with a volume within preset and tolerance: fuel in AUTHORISED begins DELIVERING, the final
report of a SETTLING sale settles it, and that of a watch ends it (R144, R145, R147, R150). A good report of a feeder
monitor: voltage, current and breaker are taken; an open breaker makes the feeder DEAD and a closed one begins to restore
it; K reports of undervoltage or overload shed it, and K healthy ones restore it (R112 to R116). The reader shows the
gate's lock and display code (R72, R159).

The entry tests in their order (R161): the credential is ACTIVE; a set clock lies in its validity window; the pontoon is permitted;
its account is not SUSPENDED. The curfew mode applies within its window, while the clock is set (R162). Then the room tests (R162):
strict passback, a full pontoon with a count that is not UNRELIABLE and a card that is no STAFF, and four pending passages. -/
def Obligations.ReaderDispenserAndMonitorReports : Prop :=
  let opens (s t : State) (g : PontoonId) (display : Nat) : Prop :=
    (t.gate g).lock = .unlocked ∧ (t.gate g).display = display ∧ t.ShowsGate g ∧
    (t.gate g).unlockEnd = some (max (s.now + (s.gate g).unlockTime * 1000) ((s.gate g).unlockEnd.getD 0))
  let denied (s t : State) (g : PontoonId) (r : DenyReason) : Prop :=
    (t.gate g).display = 4 + r.ctorIdx ∧ (t.gate g).lock = (s.gate g).lock ∧ t.ShowsGate g ∧
    (t.gate g).passages = (s.gate g).passages ∧ (t.gate g).unlockEnd = (s.gate g).unlockEnd ∧
    (t.access.log[s.access.nextPosition]).map (·.result) = some (.denied r)
  (∀ (s : State) (g : PontoonId) (c : Credential),
    let active := c.state = .active
    let valid := s.clock.isSet = false ∨ ((c.validFrom = 0 ∨ c.validFrom ≤ s.clock.value) ∧
      (c.validTo = 0 ∨ s.clock.value ≤ c.validTo))
    let lawful := ∀ a, s.gateAccount c = some a → (s.account a).state ≠ .suspended
    let here (y : StayId) := ∃ b, (s.stay y).berth = some b ∧ (s.berth b).pontoon = g
    let v := s.pontoon g
    let now := s.clock.value % 86400
    let within := (v.curfewStart < v.curfewEnd ∧ v.curfewStart ≤ now ∧ now < v.curfewEnd) ∨
      (v.curfewEnd < v.curfewStart ∧ (v.curfewStart ≤ now ∨ now < v.curfewEnd))
    let passback := v.passbackStrict = true ∧ c.zone = some g
    let full := v.peopleCapacity ≤ (s.gate g).headcount ∧ (s.gate g).unreliable = false ∧ c.kind ≠ .staff
    (c.kind = .guest → s.gateAccount c = c.stay.map (fun y => (s.stay y).settings.account) ∧
      (s.permitted c g = true ↔
        ∃ y, c.stay = some y ∧ ((s.stay y).state = .expected ∨ (s.stay y).state = .arrived) ∧ here y)) ∧
    (c.kind = .crew → s.gateAccount c = c.account ∧
      (s.permitted c g = true ↔ c.pontoons.getLsbD g.val = true ∨
        ∃ a y, c.account = some a ∧ (s.stay y).state = .arrived ∧ (s.stay y).settings.account = a ∧ here y)) ∧
    (c.kind = .staff ∨ c.kind = .contractor → s.gateAccount c = none ∧ s.permitted c g = c.pontoons.getLsbD g.val) ∧
    (¬ active → entryTests s g c = some .expired) ∧
    (active → ¬ valid → entryTests s g c = some .expired) ∧
    (active → valid → s.permitted c g = false → entryTests s g c = some .notPermitted) ∧
    (active → valid → s.permitted c g = true → ¬ lawful → entryTests s g c = some .suspended) ∧
    (active → valid → s.permitted c g = true → lawful → entryTests s g c = none) ∧
    (s.clock.isSet = true → within → s.curfewNow g = v.curfewMode) ∧
    (s.clock.isSet = false ∨ ¬ within → s.curfewNow g = 0) ∧
    (passback → roomTests s g c = some .passback) ∧
    (¬ passback → full → roomTests s g c = some .full) ∧
    (¬ passback → ¬ full → 4 ≤ (s.gate g).passages.length → roomTests s g c = some .busy) ∧
    (¬ passback → ¬ full → (s.gate g).passages.length < 4 → roomTests s g c = none)) ∧
  ∀ (s : State) (b : BranchId) (x : Exchange) (reply : List Byte) (ev : EventByte), s.part.condition = .running →
    (s.branch b).exchange = some x → x.kind = .poll → x.discard = false → (s.station x.station).leaving = none →
    (s.branch b).activeRate = (s.branch b).rateCode → (s.station x.station).state = .online → ev.started = false →
    (∀ g isOpen e, s.gateAt x.station = some g →
      (s.station x.station).goodReport reply = some (ev, .reader isOpen e) →
      ∃ t, exec (.gateReaderReport b reply) s = .next t ∧ (t.branch b).exchange = none ∧
        (t.station x.station).miss = 0 ∧ (t.gate g).door = (if isOpen then .open else .closed) ∧
        (isOpen = true → (s.gate g).door = .closed → (s.gate g).lock = .locked → e = none →
          (t.gate g).forced = true ∧ (s.trunk.notices.length < 64 →
            t.trunk.notices = s.trunk.notices ++ [{ note := .gateForced g (s.gate g).headcount, time := s.stamp }])) ∧
        (isOpen = false → (s.gate g).lock = .locked → (s.gate g).passages = [] → e = some .exitButton →
          (s.station x.station).lastTaken = none →
          (t.gate g).lock = .unlocked ∧
          (t.gate g).passages = [{ credential := none, direction := .out, grantTime := s.stamp }] ∧
          (t.gate g).display = 3) ∧
        (isOpen = true → (s.gate g).door = .closed → (s.gate g).lock = .unlocked → e = none → ∀ q l,
          (s.gate g).passages = q :: l → (t.gate g).passages = l ∧ (t.gate g).lock = .unlocked ∧
            (t.access.log[s.access.nextPosition]).map (·.result) =
              some (match q.direction with | .in => .admitted | .out => .exit)) ∧
        (isOpen = false → (s.gate g).lock ≠ .released → (s.station x.station).lastTaken = none → ∀ n,
          (e = some (.cardOut n) → (s.gate g).passages.length < 4 → opens s t g 3 ∧
            (t.gate g).passages = (s.gate g).passages ++
              [{ credential := (s.cardSlot n).map (fun i => (i, n)), direction := .out, grantTime := s.stamp }]) ∧
          (e = some (.cardOut n) → 4 ≤ (s.gate g).passages.length → opens s t g 3 ∧
            (t.gate g).passages = (s.gate g).passages ∧
            (t.access.log[s.access.nextPosition]).map (·.result) = some .void) ∧
          (e = some (.cardIn n) → s.cardSlot n = none → denied s t g .unknown) ∧
          (∀ i c, e = some (.cardIn n) → s.cardSlot n = some i → s.credential i = some c →
            (∀ r, entryTests s g c = some r → denied s t g r) ∧
            (entryTests s g c = none → s.curfewNow g = 1 ∨ s.curfewNow g = 3 → c.kind ≠ .staff → denied s t g .curfew) ∧
            (entryTests s g c = none → s.curfewNow g = 0 ∨ s.curfewNow g = 2 ∨ c.kind = .staff →
              (∀ r, roomTests s g c = some r → denied s t g r) ∧
              (roomTests s g c = none →
                opens s t g (if (s.gateAccount c).any (fun a => (s.account a).exhausted) then 2 else 1) ∧
                (t.gate g).passages = (s.gate g).passages ++
                  [{ credential := some (i, c.number), direction := .in, grantTime := s.stamp }])))) ∧
        t.KeepsBut s [.clock, .notices, .register, .engine, .link, .power, .water, .access]) ∧
    (∀ d y lifted pumping final delivered card, s.dispenserAt x.station = some d → (s.dispenser d).sale = some y →
      (s.station x.station).goodReport reply = some (ev, .dispenser lifted pumping final delivered card) →
      ∃ t, exec (.dispenserReport b reply) s = .next t ∧ (t.branch b).exchange = none ∧
        ((s.dispenser d).state = .authorised → final = false → lifted = true → 0 < delivered →
          delivered ≤ y.preset + (s.dispenser d).tolerance →
          (t.dispenser d).state = .delivering ∧ (t.dispenser d).sale = some { y with highest := delivered } ∧
          (t.dispenser d).nozzleTimer = none) ∧
        ((s.dispenser d).state = .settling → final = true → delivered ≤ y.preset + (s.dispenser d).tolerance →
          card = none →
          (t.dispenser d).sale = none ∧ (t.dispenser d).state = (if s.estopOn then .stopped else .idle) ∧
          ∃ r, t.fuel.journal = s.fuel.journal ++ [r] ∧ r.volume = max y.highest delivered ∧
            r.number = s.fuel.nextSale ∧ r.account = y.account ∧ r.price = y.price) ∧
        t.KeepsBut s [.clock, .notices, .ledger, .link, .power, .water, .fuel]) ∧
    (∀ d v lifted pumping delivered, s.dispenserAt x.station = some d → (s.dispenser d).watch = some v →
      (s.dispenser d).state.holdsSale = false →
      (s.station x.station).goodReport reply = some (ev, .dispenser lifted pumping true delivered none) →
      ∃ t, exec (.dispenserReport b reply) s = .next t ∧ (t.branch b).exchange = none ∧
        t.dispenser d = { s.dispenser d with watch := none } ∧
        (delivered ≤ v.volume → t.fuel.tanks = s.fuel.tanks ∧ t.trunk.notices = s.trunk.notices) ∧
        (v.volume < delivered →
          (t.tank (s.dispenser d).grade).stock = (s.tank (s.dispenser d).grade).stock - (delivered - v.volume) ∧
          (s.trunk.notices.length < 64 →
            ({ note := .fuelDiscrepancy d v.volume delivered v.sale, time := s.stamp } : Notice) ∈ t.trunk.notices)) ∧
        t.fuel.journal = s.fuel.journal ∧ t.KeepsBut s [.notices, .link, .fuel]) ∧
    (∀ p voltage current isOpen, (s.station x.station).pontoon = some p →
      (s.station x.station).goodReport reply = some (ev, .monitor voltage current isOpen) →
      ∃ t, exec (.feederMonitorReport b reply) s = .next t ∧ (t.branch b).exchange = none ∧
        (t.feeder p).lastVoltage = voltage ∧ (t.feeder p).lastCurrent = current ∧
        (t.feeder p).lastBreaker = some (if isOpen then .open else .closed) ∧
        (isOpen = true → (s.feeder p).state ≠ .dead → (t.feeder p).state = .dead ∧ (t.feeder p).admitted = 0 ∧
          (∀ o, (s.outlet o).state.energised = true → (s.outlet o).grantPontoon = some p →
            (t.outlet o).granted = 0 ∧ (t.outlet o).finalOwed = true)) ∧
        (isOpen = false → (s.feeder p).state = .normal → voltage < (s.pontoon p).vf → voltage < (s.pontoon p).vr →
          1 ≤ s.settings.tripCount → s.settings.tripCount ≤ min 7 ((s.feeder p).lowCount + 1) →
          ((t.feeder p).state = .shedding ∨ (t.feeder p).state = .shed) ∧
          (t.feeder p).shedCause = some .undervoltage) ∧
        (isOpen = false → (s.feeder p).state = .normal ∨ (s.feeder p).state = .restoring → (s.pontoon p).vf ≤ voltage →
          (s.pontoon p).capacity < current → 1 ≤ s.settings.tripCount →
          s.settings.tripCount ≤ min 7 ((s.feeder p).overCount + 1) →
          ((t.feeder p).state = .shedding ∨ (t.feeder p).state = .shed) ∧ (t.feeder p).shedCause = some .overload ∧
          (s.trunk.notices.length < 64 → t.notesFeeder p .overload = true)) ∧
        (isOpen = false → (s.feeder p).state = .shedding ∨ (s.feeder p).state = .shed →
          (s.feeder p).shedCause ≠ some .office → (s.pontoon p).vf ≤ voltage → (s.pontoon p).vr ≤ voltage →
          current ≤ (s.pontoon p).capacity - (s.pontoon p).reserve → 1 ≤ s.settings.tripCount →
          s.settings.tripCount ≤ min 7 ((s.feeder p).healthyCount + 1) →
          ((t.feeder p).state = .restoring ∨ (t.feeder p).state = .normal) ∧ (t.feeder p).shedCause = none ∧
          (s.trunk.notices.length < 64 → t.notesFeeder p .recovery = true)) ∧
        (isOpen = false → (s.feeder p).state = .dead →
          ((t.feeder p).state = .restoring ∨ (t.feeder p).state = .normal) ∧ (t.feeder p).shedCause = none ∧
          (t.feeder p).lowCount = 0 ∧ (t.feeder p).overCount = 0 ∧ (t.feeder p).healthyCount = 0 ∧
          (s.trunk.notices.length < 64 → t.notesFeeder p .breakerClosed = true)) ∧
        t.KeepsBut s [.notices, .link, .power])

/-- RELAY to a served station joins the relay-down queue and is answered QUEUED, with RELAY_NOTED in mode PASS_NOTE; a
full queue is BUSY; a station that is not served is OFFLINE; a class in mode BLOCK is refused BLOCKED, and one in mode
BLOCK_NOTE is refused BLOCKED with notice RELAY_BLOCKED; a branch or address out of range is BAD_VALUE (R79, R181). The class of a
command is that of its code's range, and the mode is that of the class in the filter record of the station's kind; in SETUP mode
every relay is passed (R181). The station is the enabled one with the branch and address (R79). -/
def Obligations.RelayPassesTheFilter : Prop :=
  (∀ code : Nat, commandClass code =
    if code ≤ 0x3F then .query else if code ≤ 0x7F then .config else if code ≤ 0xBF then .actuate else .service) ∧
  (∀ (s : State) (st : StationId) (code : Nat),
    (s.trunk.mode = .setup → s.filterMode st code = .pass) ∧
    (s.trunk.mode = .run → ∀ k : Fin 4, (s.station st).kind = (match k with
        | 0 => StationKind.post
        | 1 => .gateReader
        | 2 => .dispenser
        | 3 => .feederMonitor) →
      s.filterMode st code = (match commandClass code with
        | .query => s.link.filter[k].query
        | .config => s.link.filter[k].config
        | .actuate => s.link.filter[k].actuate
        | .service => s.link.filter[k].service))) ∧
  (∀ (s : State) (b : BranchId) (a : Nat),
    let named (st : StationId) := (s.station st).branch = b ∧ (s.station st).address = a ∧ (s.station st).enabled = true
    (∀ st, s.stationAt b a = some st → named st) ∧ (s.stationAt b a = none ↔ ∀ st, ¬ named st)) ∧
  ∀ (s : State) (h : ReqHeader) (w : List Byte), s.Takes h 0x06 w →
    (6 ≤ rd w 0 1 ∨ rd w 1 1 = 0 ∨ 31 < rd w 1 1 → s.Refuses (.relay h w) h 0x06 .badValue 0) ∧
    ∀ (b : BranchId) (a code : Nat), rd w 0 1 = b.val → rd w 1 1 = a → rd w 2 1 = code → 1 ≤ a → a ≤ 31 →
    (s.stationAt b a = none → s.Refuses (.relay h w) h 0x06 .offline 0) ∧
    (∀ st, s.stationAt b a = some st →
      ((s.station st).state = .offline ∨ (s.station st).state = .unpolled → s.Refuses (.relay h w) h 0x06 .offline 0) ∧
      ((s.station st).state ≠ .offline → (s.station st).state ≠ .unpolled →
        (s.filterMode st code = .block → s.Refuses (.relay h w) h 0x06 .blocked 0) ∧
        (s.filterMode st code = .blockNote → ∃ t, exec (.relay h w) s = .next t ∧
          t.Replies s h 0x06 (.refused .blocked 0) ∧
          (s.trunk.notices.length < 64 → t.trunk.notices = s.trunk.notices ++
            [{ note := .relayBlocked st code h.tag (commandClass code), time := s.stamp }]) ∧
          t.KeepsBut s [.answers, .notices]) ∧
        (s.filterMode st code = .pass ∨ s.filterMode st code = .passNote → (s.branch b).relays.length < 4 →
          ∃ t, exec (.relay h w) s = .next t ∧ t.Replies s h 0x06 .queued ∧
            t.branch b = { s.branch b with
              relays := (s.branch b).relays ++ [{ station := st, code := code, payload := w.drop 3, tag := h.tag }] } ∧
            (s.filterMode st code = .passNote → s.trunk.notices.length < 64 → t.trunk.notices = s.trunk.notices ++
              [{ note := .relayNoted st code h.tag (commandClass code), time := s.stamp }]) ∧
            (s.filterMode st code = .pass → t.trunk.notices = s.trunk.notices) ∧
            t.link.stations = s.link.stations ∧ (∀ c, c ≠ b → t.branch c = s.branch c) ∧
            t.KeepsBut s [.answers, .link, .notices]) ∧
        (s.filterMode st code = .pass ∨ s.filterMode st code = .passNote → 4 ≤ (s.branch b).relays.length →
          ∃ t, exec (.relay h w) s = .next t ∧ t.Replies s h 0x06 .busy ∧
            t.KeepsBut s [.answers])))

/-- WRITE RECORD to the branch table: without an exchange in flight a rate code from 0 starts the port, its enabled
stations UNKNOWN and the ring at its lowest address, and a rate code 0 stops it (R62, R63). To the station table: a
disabled record takes the write, an enabling makes the station UNKNOWN on a port that runs, and a disabling makes it
UNPOLLED, or waits for the end of an exchange with it (R68). A write that does not enable it, of a record whose disabling waits,
changes its settings and lets the disabling wait. Model's choices: the branch and address that a disabling waits with, and that an
enabling lets it take effect first (log entry 16). -/
def Obligations.BranchAndStationWrites : Prop :=
  ∀ (s : State) (h : ReqHeader) (w : List Byte),
    (∀ (b : BranchId) v, s.Writes h .branch w b.val → checkBranch (rdBranch (w.drop 2)) = some v →
      ∃ t, exec (.writeBranchRecord h w) s = .next t ∧ t.Replies s h 0x05 (.done []) ∧
        (t.branch b).rateCode = v.rateCode ∧ (t.branch b).missLimit = v.missLimit ∧
        (t.branch b).answerTimeout = v.answerTimeout ∧ (t.branch b).ratio = v.ratio ∧
        (t.branch b).relays = (s.branch b).relays ∧ (t.branch b).exchange = (s.branch b).exchange ∧
        ((s.branch b).exchange.isSome = true → (t.branch b).activeRate = (s.branch b).activeRate) ∧
        ((s.branch b).exchange = none → (t.branch b).activeRate = v.rateCode) ∧
        ((s.branch b).exchange = none → (s.branch b).activeRate = 0 → v.rateCode ≠ 0 →
          (∀ i, (s.station i).branch = b → (s.station i).enabled = true →
            (t.station i).state = .unknown ∧ (t.station i).miss = 0) ∧
          (t.branch b).ringPosition = ((t.ring b).head?).map (·.1)) ∧
        ((s.branch b).exchange = none → (s.branch b).activeRate ≠ 0 → v.rateCode = 0 →
          (t.branch b).ringPosition = none ∧ (t.branch b).attention = [] ∧
          (∀ i, (s.station i).branch = b → (s.station i).enabled = true → (t.station i).state = .unpolled)) ∧
        t.KeepsBut s [.answers, .link, .power, .water, .fuel, .access]) ∧
    (∀ (i : StationId) v, s.Writes h .station w i.val → checkStation (rdStation (w.drop 2)) = some v →
      ((s.station i).enabled = false → v.enabled = false →
        ∃ t, exec (.writeStationRecord h w) s = .next t ∧ t.Replies s h 0x05 (.done []) ∧
          t.link.stations = (s.setStation i ((s.station i).withSettings v)).link.stations ∧
          t.link.branches = s.link.branches ∧ t.KeepsBut s [.answers, .link]) ∧
      ((s.station i).enabled = false → (s.station i).state = .unpolled ∨ (s.station i).leaving.isSome = true →
        v.enabled = true → v.kind ≠ .none →
        (∀ j, j ≠ i → (s.station j).enabled = true → (s.station j).branch = v.branch → (s.station j).address ≠ v.address) →
        (v.kind = .feederMonitor → ∀ j, j ≠ i → (s.station j).enabled = true → (s.station j).kind = .feederMonitor →
          (s.station j).pontoon ≠ v.pontoon) →
        ∃ t, exec (.writeStationRecord h w) s = .next t ∧ t.Replies s h 0x05 (.done []) ∧
          (t.station i).settings = v ∧ (t.station i).miss = 0 ∧ (t.station i).skip = 0 ∧ (t.station i).leaving = none ∧
          (t.station i).state = (if (s.branch v.branch).activeRate = 0 then .unpolled else .unknown) ∧
          (∀ j, j ≠ i → t.station j = s.station j) ∧ t.KeepsBut s [.answers, .link, .power, .water, .fuel, .access]) ∧
      ((s.station i).enabled = true → v = { (s.station i).settings with enabled := false } →
        ∃ t, exec (.writeStationRecord h w) s = .next t ∧ t.Replies s h 0x05 (.done []) ∧
          (t.station i).enabled = false ∧
          (t.branch (s.station i).branch).relays =
            (s.branch (s.station i).branch).relays.filter (fun e => decide (e.station ≠ i)) ∧
          (s.inExchange (s.station i).branch i = false → (t.station i).state = .unpolled) ∧
          (s.inExchange (s.station i).branch i = true → (t.station i).state = (s.station i).state ∧
            (t.station i).leaving = some ((s.station i).branch, (s.station i).address) ∧
            ∃ x, (t.branch (s.station i).branch).exchange = some x ∧ x.station = i ∧ x.discard = true) ∧
          t.KeepsBut s [.answers, .notices, .link, .power, .water, .fuel, .access]) ∧
      ((s.station i).enabled = true → { v with enabled := true } ≠ (s.station i).settings →
        s.Refuses (.writeStationRecord h w) h 0x05 .state 0))

/-! ### Shore power: outlets and feeders (R84 to R123) -/

/-- WRITE RECORD to the outlet table: a new rating alone changes nothing else, a new post or socket makes a PLUGGED or
SHED outlet VACANT and drops plug, deglitch and meter baseline; a socket named by another outlet is a DUPLICATE (R85). At
the end of the start window the outlet is ON, or in GRACE while its account is in credit stop (R95, R101); at the end of
the grace time it is CLOSING for want of credit (R101). The post shows each outcome (R87).

A report of a post with one outlet, with no trip flag, its plug as taken and its counter where it stood. A CLOSING outlet that it
shows not energised is confirmed: its grant is released, its final reading reported, and it goes to its target, or, where the
target is PLUGGED, SHED or QUEUED, the permit decides with those of its berth (R91, R103, R106). A RESYNC outlet resumes its grant
where it is energised, plugged, permitted and within the headroom, ON or GRACE by its account; otherwise it is CLOSING without a
grant, with target QUEUED where only the headroom failed, PLUGGED, or VACANT without a plug, and is confirmed at once where it is
not energised (R109). That the Register hears of the final reading once the outlet has its new state is the model's choice (log
entry 49), and so is that an expiry stands at its own time, t.now = max s.now e (log entry 6). -/
def Obligations.OutletWriteAndTimers : Prop :=
  (∀ (s : State) (b : BranchId) (st : StationId) (reply : List Byte) (ev : EventByte) (o : OutletId) (e : OutletEntry),
    s.Polled b st reply ev (.post [e] [] none) → s.outletAt st 0 = some o → e.leakage = false → e.overcurrent = false →
    e.plug = (s.outlet o).plugTaken → (s.outlet o).baseline = some e.energy → (s.outlet o).finalOwed = false →
    let x := s.outlet o
    let unawaited := ∀ w, x.berth = some w → ∀ r ∈ (s.berth w).outstanding, r.item ≠ .outlet o
    let closes (t : State) (target : CloseTarget) : Prop :=
      (t.outlet o).state = .closing ∧ (t.outlet o).target = some target ∧ (t.outlet o).granted = 0 ∧
      (t.outlet o).grantPontoon = none ∧ (t.outlet o).limited = false ∧ t.Shows s o false 0 10
    let stopped := ∃ a, x.billing = some a ∧ s.inCreditStop a = true
    let resumed (t : State) : Prop :=
      (t.outlet o).granted = x.granted ∧ (t.outlet o).grantPontoon = x.grantPontoon ∧ (t.outlet o).limited = x.limited ∧
      ∀ p, x.grantPontoon = some p → x.limited = true → o ∈ (t.start p).upgrades
    ∃ t, exec (.postReport b reply) s = .next t ∧
      (x.state = .closing → e.energised = false →
        (t.outlet o).estimated = false ∧
        (x.target = some .vacant → t.ReleasedTo s o .vacant ∧ t.Shows s o false 0 0) ∧
        (x.target = some .tripped → t.ReleasedTo s o .tripped ∧ t.Shows s o false 0 11) ∧
        (x.target = some .locked → t.ReleasedTo s o .locked ∧ t.Shows s o false 0 12) ∧
        (x.target = some .plugged ∨ x.target = some .shed ∨ x.target = some .queued → e.current = 0 → unawaited →
          t.BerthEvaluated s o ∧ ((t.outlet o).state ≠ .starting → (t.outlet o).granted = 0))) ∧
      (x.state = .resync → e.current = 0 →
        (e.plug = false → (e.energised = true → closes t .vacant) ∧
          (e.energised = false → t.ReleasedTo s o .vacant ∧ t.Shows s o false 0 0)) ∧
        (e.plug = true → e.energised = false → unawaited → t.BerthEvaluated s o) ∧
        (e.plug = true → e.energised = true → (∀ y, permit s o ≠ .passed y) → closes t .plugged) ∧
        (∀ y p, e.plug = true → e.energised = true → permit s o = .passed y → x.grantPontoon = some p →
          (s.headroom p < x.granted → closes t .queued) ∧
          ((x.granted : Int) ≤ s.headroom p →
            (¬ stopped → (t.outlet o).state = .on ∧ resumed t ∧ t.Shows s o true (limitCode x.granted) 7) ∧
            (stopped → s.settings.graceTime ≠ 0 → (t.outlet o).state = .grace ∧
              (t.outlet o).graceTimer = some (s.now + s.settings.graceTime * 60000) ∧ resumed t ∧
              t.Shows s o true (limitCode x.granted) 8))))) ∧
  ∀ (s : State) (h : ReqHeader) (o : OutletId) (w : List Byte),
    (∀ v, s.Writes h .outlet w o.val → (s.outlet o).state.writable = true → checkOutlet (rdOutlet (w.drop 2)) = some v →
      (v.post = none ∨ ∀ q, q ≠ o → ¬ ((s.outlet q).post = v.post ∧ (s.outlet q).socket = v.socket)) →
      ∃ t, exec (.writeOutletRecord h w) s = .next t ∧ t.Replies s h 0x05 (.done []) ∧
        ((s.outlet o).post = v.post → (s.outlet o).socket = v.socket →
          t.power = (s.setOutlet o { s.outlet o with rating := v.rating }).power ∧ t.KeepsBut s [.answers, .power]) ∧
        (¬ ((s.outlet o).post = v.post ∧ (s.outlet o).socket = v.socket) →
          (t.outlet o).post = v.post ∧ (t.outlet o).socket = v.socket ∧ (t.outlet o).rating = v.rating ∧
          (t.outlet o).plugTaken = false ∧ (t.outlet o).deglitch = 0 ∧ (t.outlet o).baseline = none ∧
          (t.outlet o).state = (if (s.outlet o).state = .plugged ∨ (s.outlet o).state = .shed then .vacant
                                else (s.outlet o).state) ∧
          (∀ q, q ≠ o → t.outlet q = s.outlet q) ∧ t.KeepsBut s [.answers, .power, .link])) ∧
    (∀ v q, s.Writes h .outlet w o.val → (s.outlet o).state.writable = true → checkOutlet (rdOutlet (w.drop 2)) = some v →
      v.post ≠ none → q ≠ o → (s.outlet q).post = v.post → (s.outlet q).socket = v.socket →
      s.Refuses (.writeOutletRecord h w) h 0x05 .duplicate 0) ∧
    (s.Writes h .outlet w o.val → (s.outlet o).state.writable = false →
      s.Refuses (.writeOutletRecord h w) h 0x05 .state 0) ∧
    (∀ e, s.part.condition = .running → (s.outlet o).startTimer = some e →
      ∃ t, exec (.startTimerExpiry o) s = .next t ∧ t.now = max s.now e ∧ (t.outlet o).startTimer = none ∧
        (∀ p, (t.start p).slot ≠ some o) ∧ (t.outlet o).granted = (s.outlet o).granted ∧
        ((∀ a, (s.outlet o).billing = some a → s.inCreditStop a = false) → (t.outlet o).state = .on) ∧
        (∀ a, (s.outlet o).billing = some a → s.inCreditStop a = true →
          (t.outlet o).state = (if s.settings.graceTime = 0 then .closing else .grace)) ∧
        ((s.outlet o).state = .starting →
          ((t.outlet o).state = .on → t.Shows s o true (limitCode (s.outlet o).granted) 7) ∧
          ((t.outlet o).state = .grace → t.Shows s o true (limitCode (s.outlet o).granted) 8) ∧
          ((t.outlet o).state = .closing → t.Shows s o false 0 10)) ∧
        t.KeepsBut s [.part, .power, .link]) ∧
    (∀ e, s.part.condition = .running → (s.outlet o).graceTimer = some e →
      ∃ t, exec (.graceTimerExpiry o) s = .next t ∧ t.now = max s.now e ∧ (t.outlet o).state = .closing ∧
        (t.outlet o).target = some .plugged ∧ (t.outlet o).reason = some .credit ∧ (t.outlet o).graceTimer = none ∧
        ((s.outlet o).state = .grace → t.Shows s o false 0 10) ∧
        t.KeepsBut s [.part, .power, .link])

/-- RESET OUTLET takes a TRIPPED outlet, notes the time of the clear and evaluates the permits of its berth (R91, R98); LOCK
OUTLET makes any outlet that is not LOCKED locked, an energised one by way of CLOSING (R99); UNLOCK OUTLET takes a LOCKED outlet
to VACANT, or with its plug present to its permit, and evaluates the permits of its berth either way (R91, R99). What it leaves
of the other outlets where it makes one VACANT is said of states whose start queues hold QUEUED outlets alone, an invariant
(O17). The post shows each outcome, with the limit codes 1 to 5 for grants of 10, 16, 32, 63 and 125 A (R87). The six tests of
the permit run in R90's order: no berth, a berth CLEARING, no ARRIVED stay on it, class NONE, credit stop, and a priority class
that the feeder does not admit. A report of a post with one outlet, its counter where it stood. A plug taken as removed or
inserted acts by the outlet's state (R89, R98). A trip flag sends an energised outlet to TRIPPED, or LOCKED within 600 s of its
last clear, its grant released and its final reading reported; it changes the target of a CLOSING outlet that would come back;
both raise OUTLET_TRIPPED; any other outlet passes it over (R97, R106). Which of two trip flags is the cause is a free value
(log entry 21); that the grant is released before the outlet takes its outcome (log entry 51), and that the Register hears of
the final reading after that (log entry 49), are the model's choices. -/
def Obligations.ResetLockAndUnlockOutlet : Prop :=
  (limitCode 10 = 1 ∧ limitCode 16 = 2 ∧ limitCode 32 = 3 ∧ limitCode 63 = 4 ∧ limitCode 125 = 5) ∧
  (∀ (s : State) (o : OutletId),
    ((s.outlet o).berth = none → permit s o = .refused .noStay) ∧
    ∀ w, (s.outlet o).berth = some w →
      let stays (y : StayId) :=
        (s.berth w).state = .occupied ∧ (s.berth w).currentStay = some y ∧ (s.stay y).state = .arrived
      ((s.berth w).state = .clearing → permit s o = .refused .closingPending) ∧
      ((s.berth w).state ≠ .clearing → (∀ y, ¬ stays y) → permit s o = .refused .noStay) ∧
      ∀ y, stays y →
        let v := (s.stay y).settings
        let admitted := (s.feeder (s.berth w).pontoon).admitted.getLsbD v.priority.val = true
        (v.power = .none → permit s o = .refused .noClass) ∧
        (v.power ≠ .none → s.inCreditStop v.account = true → permit s o = .refused .credit) ∧
        (v.power ≠ .none → s.inCreditStop v.account = false → ¬ admitted → permit s o = .shed) ∧
        (v.power ≠ .none → s.inCreditStop v.account = false → admitted → permit s o = .passed y)) ∧
  (∀ (s : State) (h : ReqHeader) (o : OutletId) (w : List Byte), rd w 0 2 = o.val →
    let permitted (t : State) : Prop :=
      (t.outlet o).plugTaken = (s.outlet o).plugTaken ∧ (t.outlet o).lastClear = some s.now ∧ t.BerthEvaluated s o
    (s.Takes h 0x30 w → (s.outlet o).state = .tripped → ∃ t, exec (.resetOutlet h w) s = .next t ∧
      t.Replies s h 0x30 (.done []) ∧ permitted t ∧ t.KeepsBut s [.answers, .power, .link]) ∧
    (s.Takes h 0x30 w → (s.outlet o).state ≠ .tripped → s.Refuses (.resetOutlet h w) h 0x30 .state 0) ∧
    (s.Takes h 0x31 w → (s.outlet o).state ≠ .locked → ∃ t, exec (.lockOutlet h w) s = .next t ∧
      t.Replies s h 0x31 (.done []) ∧
      ((s.outlet o).state.energised = true → (t.outlet o).state = .closing ∧ (t.outlet o).target = some .locked ∧
        ((s.outlet o).state ≠ .closing → t.Shows s o false 0 10)) ∧
      ((s.outlet o).state.energised = false → (t.outlet o).state = .locked ∧ t.Shows s o false 0 12) ∧
      t.KeepsBut s [.answers, .power, .link]) ∧
    (s.Takes h 0x31 w → (s.outlet o).state = .locked → s.Refuses (.lockOutlet h w) h 0x31 .state 0) ∧
    (s.Takes h 0x32 w → (s.outlet o).state = .locked → (s.outlet o).plugTaken = false →
      ∃ t, exec (.unlockOutlet h w) s = .next t ∧ t.Replies s h 0x32 (.done []) ∧ t.MatesEvaluated s o ∧
        ((∀ p, ∀ q ∈ (s.start p).queue, (s.outlet q).state = .queued) →
          t.outlet o = { s.outlet o with state := .vacant, lastClear := some s.now } ∧ t.Shows s o false 0 0 ∧
          ∀ q, q ≠ o → (s.outlet q).state ∉ [.plugged, .shed, .queued] → t.outlet q = s.outlet q) ∧
        t.KeepsBut s [.answers, .power, .link]) ∧
    (s.Takes h 0x32 w → (s.outlet o).state = .locked → (s.outlet o).plugTaken = true →
      ∃ t, exec (.unlockOutlet h w) s = .next t ∧ t.Replies s h 0x32 (.done []) ∧ permitted t ∧
        t.KeepsBut s [.answers, .power, .link]) ∧
    (s.Takes h 0x32 w → (s.outlet o).state ≠ .locked → s.Refuses (.unlockOutlet h w) h 0x32 .state 0)) ∧
  ∀ (s : State) (b : BranchId) (st : StationId) (reply : List Byte) (ev : EventByte) (o : OutletId) (e : OutletEntry),
    s.Polled b st reply ev (.post [e] [] none) → s.outletAt st 0 = some o → (s.outlet o).baseline = some e.energy →
    (s.outlet o).finalOwed = false →
    let x := s.outlet o
    let flagged := e.leakage = true ∨ e.overcurrent = true
    let taken := s.settings.deglitch ≤ x.deglitch + 1 ∧ e.plug ≠ x.plugTaken ∧ ¬ flagged
    let locked := x.lastClear.any (fun c => decide (s.now < c + 600000))
    let outcome : OutletState := if locked then .locked else .tripped
    let outcomeTarget : CloseTarget := if locked then .locked else .tripped
    let closes (t : State) (target : CloseTarget) : Prop :=
      (t.outlet o).state = .closing ∧ (t.outlet o).target = some target
    let tripped (t : State) : Prop :=
      t.ReleasedTo s o outcome ∧ t.Shows s o false 0 (if locked then 12 else 11)
    let noted (t : State) : Prop := ∃ cause, (t.outlet o).lastTrip = some cause ∧
      (e.overcurrent = false → cause = .leakage) ∧ (e.leakage = false → cause = .postOvercurrent) ∧
      (cause = .leakage ∨ cause = .postOvercurrent) ∧
      (s.trunk.notices.length < 60 →
        ({ note := .outletTripped o cause e.current locked, time := s.stamp } : Notice) ∈ t.trunk.notices)
    let passedOver (t : State) : Prop := (t.outlet o).lastTrip = x.lastTrip ∧
      ∀ n ∈ t.trunk.notices, n ∉ s.trunk.notices → ∀ i c a l, n.note ≠ .outletTripped i c a l
    ∃ t, exec (.postReport b reply) s = .next t ∧
      (flagged → e.plug = x.plugTaken →
        (x.state ∈ [.starting, .on, .grace, .resync] → tripped t ∧ noted t) ∧
        (x.state = .closing → x.target = some .plugged ∨ x.target = some .shed ∨ x.target = some .queued →
          noted t ∧ (e.energised = true → closes t outcomeTarget) ∧ (e.energised = false → tripped t)) ∧
        (∀ target ∈ [CloseTarget.vacant, .tripped, .locked], x.state = .closing → x.target = some target →
          e.energised = true → closes t target ∧ passedOver t) ∧
        (x.state.energised = false →
          t.outlet o = { x with baseline := some e.energy, lastCurrent := e.current, deglitch := 0 } ∧ passedOver t)) ∧
      (taken → (t.outlet o).plugTaken = e.plug ∧ (t.outlet o).deglitch = 0) ∧
      (taken → e.plug = false →
        (x.state = .plugged ∨ x.state = .shed ∨ x.state = .queued →
          (t.outlet o).state = .vacant ∧ (t.outlet o).reason = none ∧ t.Shows s o false 0 0) ∧
        (x.state = .queued → ∀ p, o ∉ (t.start p).queue) ∧
        (x.state = .starting ∨ x.state = .on ∨ x.state = .grace → t.ReleasedTo s o .vacant ∧ t.Shows s o false 0 0) ∧
        (x.state = .tripped → (t.outlet o).state = .vacant ∧ (t.outlet o).lastClear = some s.now ∧
          t.Shows s o false 0 0) ∧
        (x.state = .locked → (t.outlet o).state = .locked) ∧
        (x.state = .closing → e.energised = true →
          (x.target = some .locked → closes t .locked) ∧
          (x.target = some .tripped → closes t .vacant ∧ (t.outlet o).lastClear = some s.now) ∧
          (x.target = some .vacant ∨ x.target = some .plugged ∨ x.target = some .shed ∨ x.target = some .queued →
            closes t .vacant))) ∧
      (taken → e.plug = true → (∀ w, x.berth = some w → (s.berth w).state ≠ .held) →
        (x.state = .vacant → e.current = 0 → t.Evaluated s o ∧ t.ShowsPermit s o) ∧
        (x.state = .closing → e.energised = true →
          (x.target = some .vacant → closes t .plugged) ∧ (x.target = some .locked → closes t .locked)) ∧
        (x.state = .locked → (t.outlet o).state = .locked))

/-- SHED FEEDER starts the SHED program of a NORMAL or RESTORING feeder with shed cause OFFICE, gives that cause to a
feeder SHEDDING or SHED for another, and is refused STATE where it has that cause already or the feeder is DEAD (R117).
RESTORE FEEDER starts the RESTORE program of a SHEDDING or SHED feeder, and of a DEAD one that no enabled monitor names,
and is refused STATE otherwise (R118). The step timer applies its step, and the END step ends the program (R120). That an
expiry stands at its own time, t.now = max s.now e, and the next step's timer counts from it is the model's choice (log
entry 6). A RESTORE step by which a class enters has the pontoon's start queue considered: with the start slot free, a head whose
permit is refused leaves it, PLUGGED with the reason (R93, R122). -/
def Obligations.LoadProgramsOfAFeeder : Prop :=
  ∀ (s : State) (h : ReqHeader) (p : PontoonId) (w : List Byte), (rd w 0 2 = p.val →
      (s.Takes h 0x38 w → (s.feeder p).state = .normal ∨ (s.feeder p).state = .restoring →
        ∃ t, exec (.shedFeeder h w) s = .next t ∧ t.Replies s h 0x38 (.done []) ∧
          ((t.feeder p).state = .shedding ∨ (t.feeder p).state = .shed) ∧ (t.feeder p).shedCause = some .office ∧
          (∀ q, q ≠ p → t.feeder q = s.feeder q) ∧ t.KeepsBut s [.answers, .notices, .power, .link]) ∧
      (s.Takes h 0x38 w → (s.feeder p).state = .shedding ∨ (s.feeder p).state = .shed →
        ((s.feeder p).shedCause ≠ some .office → ∃ t, exec (.shedFeeder h w) s = .next t ∧ t.Replies s h 0x38 (.done []) ∧
          t.power = (s.setFeeder p { s.feeder p with shedCause := some .office }).power ∧ t.KeepsBut s [.answers, .power]) ∧
        ((s.feeder p).shedCause = some .office → s.Refuses (.shedFeeder h w) h 0x38 .state 0)) ∧
      (s.Takes h 0x38 w → (s.feeder p).state = .dead → s.Refuses (.shedFeeder h w) h 0x38 .state 0) ∧
      (s.Takes h 0x39 w → (s.feeder p).state = .shedding ∨ (s.feeder p).state = .shed ∨
          ((s.feeder p).state = .dead ∧ s.monitored p = false) →
        ∃ t, exec (.restoreFeeder h w) s = .next t ∧ t.Replies s h 0x39 (.done []) ∧
          ((t.feeder p).state = .restoring ∨ ((t.feeder p).state = .normal ∧ (t.feeder p).admitted = 15)) ∧
          (t.feeder p).shedCause = none ∧ (∀ q, q ≠ p → t.feeder q = s.feeder q) ∧
          t.KeepsBut s [.answers, .notices, .power, .link]) ∧
      (s.Takes h 0x39 w → (s.feeder p).state = .normal ∨ (s.feeder p).state = .restoring ∨
          ((s.feeder p).state = .dead ∧ s.monitored p = true) →
        s.Refuses (.restoreFeeder h w) h 0x39 .state 0)) ∧
    (∀ e k, s.part.condition = .running → (s.feeder p).stepTimer = some e → (s.feeder p).position = some k →
      let restore := decide ((s.feeder p).state = .restoring)
      let step := (s.program restore)[k]
      let set := if restore then (s.feeder p).admitted ||| step.mask else (s.feeder p).admitted &&& step.mask
      ∃ t, exec (.programStepTimer p) s = .next t ∧ t.now = max s.now e ∧
        (step.endFlag = true ∨ k = 7 →
          (t.feeder p).state = (if restore then .normal else .shed) ∧ (t.feeder p).stepTimer = none ∧
          (t.feeder p).position = none ∧ (t.feeder p).admitted = (if restore then 15 else set) ∧
          (s.trunk.notices.length < 64 → t.trunk.notices = s.trunk.notices ++
            [{ note := .feederState p (t.feeder p).state .programEnd (t.feeder p).admitted, time := s.stamp }])) ∧
        (step.endFlag = false → k ≠ 7 → (s.program restore)[k + 1].delay ≠ 0 →
          (t.feeder p).state = (s.feeder p).state ∧ (t.feeder p).position = some (k + 1) ∧
          (t.feeder p).admitted = set ∧
          (t.feeder p).stepTimer = some (max s.now e + 2 ^ ((s.program restore)[k + 1].delay - 1) * 1000) ∧
          t.trunk.notices = s.trunk.notices) ∧
        (∀ o rest r, (s.feeder p).state = .restoring → step.mask &&& ~~~(s.feeder p).admitted ≠ 0 →
          (s.start p).slot = none → (s.start p).queue = o :: rest → (s.outlet o).state = .queued →
          permit s o = .refused r →
          (t.outlet o).state = .plugged ∧ (t.outlet o).reason = some r ∧ o ∉ (t.start p).queue) ∧
        (∀ q, q ≠ p → t.feeder q = s.feeder q) ∧ t.KeepsBut s [.part, .notices, .power, .link])

/-! ### Water (R124 to R132) -/

/-- A post's report at a tap whose post serves no outlet (R127): the counter is metered, the water of an OPEN tap comes off its
allowance stay's allowance and the rest is charged (R58, R128), and a tap left without credit and allowance closes (R130). A
press that R74 hands on closes an OPEN tap, is refused at a LEAK or LOCKED tap and at one whose final reading is owed, and opens a
CLOSED tap for an ARRIVED stay with allowance or credit (R129). Readings that show flow through a CLOSED tap count as a leak, and
at K the tap is LEAK (R131). The post shows each change and each refused press (R126).

WRITE RECORD to the tap table; a post and tap index of another tap are a DUPLICATE, and an OPEN tap or one whose final
reading is owed is STATE (R125). The run timer closes an OPEN tap with its final reading owed (R130). CLEAR TAP closes a
LEAK or LOCKED tap, and settles a CLOSED tap whose owed reading no berth awaits; an OPEN tap, one that owes nothing and
one that its berth awaits are refused STATE (R131). LOCK TAP locks any tap that is not LOCKED (R131). Model's choices: an
expiry stands at its own time, t.now = max s.now e (log entry 6), and the settling of a CLOSED tap shows nothing on its
post (log entry 10). -/
def Obligations.TapCommandsAndRunTimer : Prop :=
  (∀ (s : State) (b : BranchId) (st : StationId) (reply : List Byte) (ev : EventByte) (outs : List OutletEntry) (x : TapEntry)
    (toggle : Option (Fin 2)) (a : TapId), s.Polled b st reply ev (.post outs [x] toggle) → (∀ k, s.outletAt st k = none) →
    s.tapAt st 0 = some a → (s.station st).state = .online →
    let y := s.tap a
    let last := if ev.started && !(s.station st).startNoted then none else (s.station st).lastTaken
    let pressed := toggle = some 0 ∧ last ≠ some ev.number
    let silent := toggle = none ∨ last = some ev.number
    let used (old : BitVec 32) : Nat := (x.flow - old).toNat
    let delta := match y.baseline with
      | some old => if used old ≤ 2000 then used old else 0
      | none => 0
    let qualifies := x.flowing = true ∨ s.settings.leakThreshold < delta
    let named (i : StayId) : Prop :=
      y.allowanceStay = some i ∧ ((s.stay i).state = .arrived ∨ (s.stay i).state = .departing)
    let guest (i : StayId) : Prop := ∃ w, y.berth = some w ∧ (s.berth w).state = .occupied ∧
      (s.berth w).currentStay = some i ∧ (s.stay i).state = .arrived
    ∃ t, exec (.postReport b reply) s = .next t ∧
      let refused (condition : Nat) : Prop := (t.tap a).state = y.state ∧ (t.tap a).billing = y.billing ∧
        (t.tap a).allowanceStay = y.allowanceStay ∧ (t.tap a).runTimer = y.runTimer ∧ (t.tap a).finalOwed = y.finalOwed ∧
        t.ShowsTap s a condition
      let closed (condition : Nat) : Prop := (t.tap a).state = .closed ∧ (t.tap a).runTimer = none ∧
        (t.tap a).finalOwed = true ∧ t.ShowsTap s a condition
      (t.tap a).baseline = some x.flow ∧ (t.tap a).lastDelta = delta ∧
      (y.state = .open → y.finalOwed = false →
        (∀ old c, y.baseline = some old → y.billing = some c → used old ≤ 2000 →
          let price := (((s.ledger.tariff.water : Int) * (100 + (s.account c).adjustment) + 50) / 100).toNat
          (∀ i, named i → (t.stay i).allowanceLeft = (s.stay i).allowanceLeft - used old ∧
            t.account c = (s.account c).charged .water (used old - (s.stay i).allowanceLeft) price) ∧
          ((∀ i, ¬ named i) → t.account c = (s.account c).charged .water (used old) price)) ∧
        (∀ c, silent → y.billing = some c → t.inCreditStop c = true → (∀ i, named i → (t.stay i).allowanceLeft = 0) →
          s.tapAt st 1 = none → closed 3) ∧
        (pressed → (∀ c, y.billing = some c → t.inCreditStop c = false) → closed 0)) ∧
      (y.state = .leak → pressed → (y.finalOwed = false ∨ x.valveOpen = true) → refused 6) ∧
      (y.state = .locked → pressed → (y.finalOwed = false ∨ x.valveOpen = true) → refused 7) ∧
      (y.state = .closed → pressed → y.finalOwed = true → x.valveOpen = true → refused 8) ∧
      (y.state = .closed → y.finalOwed = false →
        (pressed → ¬ qualifies → (∀ i, ¬ guest i) → refused 4) ∧
        (∀ i, pressed → ¬ qualifies → guest i → (s.stay i).allowanceLeft = 0 →
          s.inCreditStop (s.stay i).settings.account = true → refused 5) ∧
        (∀ i, pressed → ¬ qualifies → guest i →
          0 < (s.stay i).allowanceLeft ∨ s.inCreditStop (s.stay i).settings.account = false →
          (t.tap a).state = .open ∧ (t.tap a).billing = some (s.stay i).settings.account ∧
          (t.tap a).allowanceStay = some i ∧ (t.tap a).estimated = false ∧ (t.tap a).leakCount = 0 ∧
          (t.tap a).runTimer = some (s.now + y.maxRun * 60000) ∧ t.ShowsTap s a 1) ∧
        (¬ qualifies → (t.tap a).leakCount = 0) ∧
        (silent → qualifies → min 7 (y.leakCount + 1) < s.settings.tripCount →
          (t.tap a).state = .closed ∧ (t.tap a).leakCount = min 7 (y.leakCount + 1)) ∧
        (silent → qualifies → s.settings.tripCount ≤ min 7 (y.leakCount + 1) →
          (t.tap a).state = .leak ∧ (t.tap a).leakCount = min 7 (y.leakCount + 1) ∧ t.ShowsTap s a 9 ∧
          (s.trunk.notices.length < 61 →
            ({ note := .tapLeak a y.berth delta, time := s.stamp } : Notice) ∈ t.trunk.notices)))) ∧
  ∀ (s : State) (h : ReqHeader) (a : TapId) (w : List Byte),
    (∀ v, s.Writes h .tap w a.val → (s.tap a).state ≠ .open → (s.tap a).finalOwed = false →
      checkTap (rdTap (w.drop 2)) = some v →
      (v.post = none ∨ (∀ q, q ≠ a → ¬ ((s.tap q).post = v.post ∧ (s.tap q).tapIndex = v.tapIndex)) →
        ∃ t, exec (.writeTapRecord h w) s = .next t ∧ t.Replies s h 0x05 (.done []) ∧
          t.tap a = (if (s.tap a).post = v.post ∧ (s.tap a).tapIndex = v.tapIndex then { s.tap a with maxRun := v.maxRun }
                     else { s.tap a with post := v.post, tapIndex := v.tapIndex, maxRun := v.maxRun, baseline := none,
                                         leakCount := 0, estimated := false }) ∧
          (∀ q, q ≠ a → t.tap q = s.tap q) ∧ t.KeepsBut s [.answers, .water]) ∧
      (∀ q, v.post ≠ none → q ≠ a → (s.tap q).post = v.post → (s.tap q).tapIndex = v.tapIndex →
        s.Refuses (.writeTapRecord h w) h 0x05 .duplicate 0)) ∧
    (s.Writes h .tap w a.val → (s.tap a).state = .open ∨ (s.tap a).finalOwed = true →
      s.Refuses (.writeTapRecord h w) h 0x05 .state 0) ∧
    (∀ e, s.part.condition = .running → (s.tap a).runTimer = some e →
      ∃ t, exec (.runTimerExpiry a) s = .next t ∧ t.now = max s.now e ∧
        t.tap a = { s.tap a with state := .closed, runTimer := none, finalOwed := true } ∧ t.ShowsTap s a 2 ∧
        (∀ q, q ≠ a → t.tap q = s.tap q) ∧ t.KeepsBut s [.part, .water, .link]) ∧
    (rd w 0 2 = a.val →
      (s.Takes h 0x3C w → (s.tap a).state = .leak ∨ (s.tap a).state = .locked →
        ∃ t, exec (.clearTap h w) s = .next t ∧ t.Replies s h 0x3C (.done []) ∧
          t.tap a = { s.tap a with state := .closed, leakCount := 0 } ∧ t.ShowsTap s a 0 ∧
          (∀ q, q ≠ a → t.tap q = s.tap q) ∧ t.KeepsBut s [.answers, .water, .link]) ∧
      (s.Takes h 0x3C w → (s.tap a).state = .closed → (s.tap a).finalOwed = true → s.tapOutstanding a = false →
        ∃ t, exec (.clearTap h w) s = .next t ∧ t.Replies s h 0x3C (.done []) ∧
          t.water = (s.setTap a { s.tap a with finalOwed := false, allowanceStay := none, estimated := true }).water ∧
          t.KeepsBut s [.answers, .water]) ∧
      (s.Takes h 0x3C w → (s.tap a).state = .open ∨
          ((s.tap a).state = .closed ∧ ((s.tap a).finalOwed = false ∨ s.tapOutstanding a = true)) →
        s.Refuses (.clearTap h w) h 0x3C .state 0) ∧
      (s.Takes h 0x3D w → (s.tap a).state ≠ .locked → ∃ t, exec (.lockTap h w) s = .next t ∧
        t.Replies s h 0x3D (.done []) ∧
        t.tap a = (if (s.tap a).state = .open then { s.tap a with state := .locked, runTimer := none, finalOwed := true }
                   else { s.tap a with state := .locked }) ∧ t.ShowsTap s a 10 ∧
        (∀ q, q ≠ a → t.tap q = s.tap q) ∧ t.KeepsBut s [.answers, .water, .link]) ∧
      (s.Takes h 0x3D w → (s.tap a).state = .locked → s.Refuses (.lockTap h w) h 0x3D .state 0))

/-! ### The fuel dock (R133 to R154) -/

/-- WRITE RECORD to the tank table, STOCK and SET STOCK: the stock rises up to 99,999,999 cl, with the part not added in the
answer, or is replaced; LOW_STOCK is set while the stock lies below its threshold, with STOCK_LOW as it is set (R133,
R134). -/
def Obligations.StockAndLowStock : Prop :=
  ∀ (s : State) (h : ReqHeader) (g : GradeId) (w : List Byte),
    let noted (t : State) (x : Tank) : Prop :=
      t.fuel = (s.setTank g { x with lowFlag := decide (x.stock < x.lowStock) }).fuel ∧
      (s.trunk.notices.length < 64 → t.trunk.notices =
        if x.stock < x.lowStock ∧ (s.tank g).lowFlag = false then
          s.trunk.notices ++ [{ note := .stockLow g x.stock x.lowStock, time := s.stamp }]
        else s.trunk.notices) ∧
      t.KeepsBut s [.answers, .fuel, .notices]
    (∀ v, s.Writes h .tank w g.val → checkTank (rdTank (w.drop 2)) = some v →
      ∃ t, exec (.writeTankRecord h w) s = .next t ∧ t.Replies s h 0x05 (.done []) ∧
        noted t { s.tank g with reserve := v.1, lowStock := v.2 }) ∧
    (∀ v, s.Takes h 0x44 w → rd w 0 2 = g.val → rd w 2 4 = v → 1 ≤ v → v ≤ 99999999 →
      ∃ t, exec (.stock h w) s = .next t ∧
        t.Replies s h 0x44 (.done (le 4 (min 99999999 ((s.tank g).stock + v)) ++
          le 4 ((s.tank g).stock + v - min 99999999 ((s.tank g).stock + v)))) ∧
        noted t { s.tank g with stock := min 99999999 ((s.tank g).stock + v) }) ∧
    (∀ v, s.Takes h 0x45 w → rd w 0 2 = g.val → rd w 2 4 = v → v ≤ 99999999 → ∃ t, exec (.setStock h w) s = .next t ∧
      t.Replies s h 0x45 (.done []) ∧ noted t { s.tank g with stock := v }) ∧
    (s.Takes h 0x44 w → 1 < rd w 0 2 ∨ rd w 2 4 = 0 ∨ 99999999 < rd w 2 4 → s.Refuses (.stock h w) h 0x44 .badValue 0) ∧
    (s.Takes h 0x45 w → 1 < rd w 0 2 ∨ 99999999 < rd w 2 4 → s.Refuses (.setStock h w) h 0x45 .badValue 0)

/-- WRITE RECORD to the dispenser table, OPEN DISPENSER and CLOSE DISPENSER: a dispenser without a sale takes its
settings, and a new station drops the watch and enable seen; a CLOSED dispenser opens IDLE, or STOPPED while ESTOP is
asserted; an IDLE or STOPPED one closes and drops its watch (R136). -/
def Obligations.DispenserRecordOpenAndClose : Prop :=
  ∀ (s : State) (h : ReqHeader) (d : DispenserId) (w : List Byte),
    (∀ v, s.Writes h .dispenser w d.val → (s.dispenser d).state.holdsSale = false →
      checkDispenser (rdDispenser (w.drop 2)) = some v →
      (v.station = none ∨ ∀ q, q ≠ d → (s.dispenser q).station ≠ v.station) →
      ∃ t, exec (.writeDispenserRecord h w) s = .next t ∧ t.Replies s h 0x05 (.done []) ∧
        (t.dispenser d).station = v.station ∧ (t.dispenser d).grade = v.grade ∧ (t.dispenser d).maxPreset = v.maxPreset ∧
        (t.dispenser d).tolerance = v.tolerance ∧ (t.dispenser d).nozzleTimeout = v.nozzleTimeout ∧
        (t.dispenser d).state = (s.dispenser d).state ∧ (t.dispenser d).sale = (s.dispenser d).sale ∧
        ((s.dispenser d).station ≠ v.station → (t.dispenser d).watch = none ∧ (t.dispenser d).enableSeen = false) ∧
        ((s.dispenser d).station = v.station → (t.dispenser d).watch = (s.dispenser d).watch) ∧
        (∀ q, q ≠ d → t.dispenser q = s.dispenser q) ∧ t.fuel.tanks = s.fuel.tanks ∧ t.fuel.journal = s.fuel.journal ∧
        t.KeepsBut s [.answers, .fuel, .link]) ∧
    (s.Writes h .dispenser w d.val → (s.dispenser d).state.holdsSale = true →
      s.Refuses (.writeDispenserRecord h w) h 0x05 .state 0) ∧
    (rd w 0 2 = d.val →
      (s.Takes h 0x42 w → (s.dispenser d).state = .closed → ∃ t, exec (.openDispenser h w) s = .next t ∧
        t.Replies s h 0x42 (.done []) ∧
        (t.dispenser d).state = (if s.lines.estop.taken = .asserted then .stopped else .idle) ∧
        (t.dispenser d).watch = (s.dispenser d).watch ∧ (∀ q, q ≠ d → t.dispenser q = s.dispenser q) ∧
        t.KeepsBut s [.answers, .fuel, .link]) ∧
      (s.Takes h 0x42 w → (s.dispenser d).state ≠ .closed → s.Refuses (.openDispenser h w) h 0x42 .state 0) ∧
      (s.Takes h 0x43 w → (s.dispenser d).state = .idle ∨ (s.dispenser d).state = .stopped →
        ∃ t, exec (.closeDispenser h w) s = .next t ∧ t.Replies s h 0x43 (.done []) ∧
          (t.dispenser d).state = .closed ∧ (t.dispenser d).watch = none ∧
          (∀ q, q ≠ d → t.dispenser q = s.dispenser q) ∧ t.KeepsBut s [.answers, .fuel, .link]))

/-- AUTHORISE on an IDLE dispenser that is served: the sale takes preset, price and hold, the dispenser's hold slot is
filled, the answer carries preset and hold, and the station is told enable, preset and price (R137, R140, R141, R142). The
preset is the least of the volume asked for, the stock bound and the credit bound at the effective price of the grade; one below
100 cl is LOW_STOCK where the stock bound is below 100, else LOW_CREDIT; and the hold is the preset's price in cents, rounded up,
or 1 (R141). A preset lies within the stock, and its hold within the available credit (R141). The refusals in their order (R140):
BAD_VALUE, STOPPED, STATE, OFFLINE, STATE for a CLOSED account, JOURNAL_FULL, CREDIT, and that of the preset. That a staff flag
which is neither yes nor no is BAD_VALUE is the model's choice (log entry 36). -/
def Obligations.AuthoriseHoldsTheCredit : Prop :=
  (∀ (s : State) (d : DispenserId) (a : AccountId) (staff : Bool) (asked : Nat),
    let grade := (s.dispenser d).grade
    let base := if grade = 0 then s.ledger.tariff.fuel0 else s.ledger.tariff.fuel1
    let price := (((base : Int) * (100 + (s.account a).adjustment) + 50) / 100).toNat
    let others := ((List.finRange 4).map (fun q =>
      if q ≠ d ∧ (s.dispenser q).grade = grade ∧
          ((s.dispenser q).state = .authorised ∨ (s.dispenser q).state = .delivering ∨ (s.dispenser q).state = .settling)
      then ((s.dispenser q).sale.map (·.preset)).getD 0 else 0)).sum
    let stock := (s.tank grade).stock - others - (if staff = true then 0 else (s.tank grade).reserve)
    let credit := (min (s.account a).available ((99999999 : Int) - (s.account a).heldTotal)).toNat
    let preset := if price = 0 then (if 1 ≤ credit then min asked stock else 0)
      else min (min asked stock) (credit * 10000 / price)
    (100 ≤ preset → presetFor s d a staff asked =
      .ok { preset := preset, price := price, hold := if price = 0 then 1 else (preset * price + 9999) / 10000 }) ∧
    (preset < 100 → stock < 100 → presetFor s d a staff asked = .error .lowStock) ∧
    (preset < 100 → 100 ≤ stock → presetFor s d a staff asked = .error .lowCredit)) ∧
  (∀ (s : State) (h : ReqHeader) (w : List Byte), s.Takes h 0x40 w →
    let refuses (r : Reason) : Prop := s.Refuses (.authorise h w) h 0x40 r 0
    let stopped := s.lines.estop.taken = .asserted
    let asked (d : DispenserId) : Nat := max 100 (min (rd w 4 4) (s.dispenser d).maxPreset)
    (4 ≤ rd w 0 2 ∨ 512 ≤ rd w 2 2 ∨ 99999 < rd w 4 4 ∨ 1 < rd w 8 1 → refuses .badValue) ∧
    ∀ (d : DispenserId) (a : AccountId) (staff : Bool), rd w 0 2 = d.val → rd w 2 2 = a.val → rd w 4 4 ≤ 99999 →
      rd w 8 1 = (if staff then 1 else 0) →
      let ready := (s.dispenser d).state = .idle ∧ (s.dispenser d).watch = none
      let served := s.dispenserStation d = some .online ∨ s.dispenserStation d = some .unknown
      let placed := s.fuel.journal.length + s.salesOpen < 32
      (stopped → refuses .stopped) ∧
      (¬ stopped → ¬ ready → refuses .state) ∧
      (¬ stopped → ready → ¬ served → refuses .offline) ∧
      (¬ stopped → ready → served → (s.account a).state = .closed → refuses .state) ∧
      (¬ stopped → ready → served → (s.account a).state ≠ .closed → ¬ placed → refuses .journalFull) ∧
      (¬ stopped → ready → served → (s.account a).state ≠ .closed → placed → s.inCreditStop a = true → refuses .credit) ∧
      (∀ r, ¬ stopped → ready → served → (s.account a).state ≠ .closed → placed → s.inCreditStop a = false →
        presetFor s d a staff (asked d) = .error r → refuses r)) ∧
  ∀ (s : State) (d : DispenserId) (a : AccountId) (staff : Bool) (g : PresetGiven),
    (∀ asked, presetFor s d a staff asked = .ok g →
      100 ≤ g.preset ∧ g.preset ≤ asked ∧ g.preset ≤ (s.tank (s.dispenser d).grade).stock ∧
      (g.hold : Int) ≤ (s.account a).available ∧ g.preset * g.price ≤ g.hold * 10000) ∧
    (∀ (h : ReqHeader) (w : List Byte), s.Takes h 0x40 w → rd w 0 2 = d.val → rd w 2 2 = a.val → rd w 4 4 ≤ 99999 →
      rd w 8 1 = (if staff then 1 else 0) → s.lines.estop.taken ≠ .asserted →
      (s.dispenser d).state = .idle → (s.dispenser d).watch = none →
      (s.dispenserStation d = some .online ∨ s.dispenserStation d = some .unknown) →
      (s.account a).state ≠ .closed → s.inCreditStop a = false → s.fuel.journal.length + s.salesOpen < 32 →
      presetFor s d a staff (max 100 (min (rd w 4 4) (s.dispenser d).maxPreset)) = .ok g →
      ∃ t, exec (.authorise h w) s = .next t ∧
        t.Replies s h 0x40 (.done (le 4 g.preset ++ le 4 g.hold)) ∧
        (t.dispenser d).state = .authorised ∧
        (t.dispenser d).sale = some
          { account := a, credential := none, price := g.price, preset := g.preset, hold := g.hold, highest := 0,
            staff := staff, overrun := false, stopped := false, estimated := false, clamped := false,
            authTime := s.stamp } ∧
        (t.dispenser d).nozzleTimer = some (s.now + (s.dispenser d).nozzleTimeout * 1000) ∧
        (t.dispenser d).enableSeen = false ∧ (∀ q, q ≠ d → t.dispenser q = s.dispenser q) ∧
        (∀ st, (s.dispenser d).station = some st → t.ShowsSale st true g.preset g.price false) ∧
        t.holdSlot (slotOf d) = some { account := a, amount := g.hold, owner := .dispenser d, placed := s.stamp,
                                       expiry := none, expiryMet := false } ∧
        t.account a = Account.evaluated { s.account a with heldTotal := (s.account a).heldTotal + g.hold } ∧
        (∀ c, c ≠ a → t.account c = s.account c) ∧
        t.KeepsBut s [.answers, .ledger, .notices, .fuel, .link, .power, .water])

/-- A sale ends without delivery by its nozzle timeout or CANCEL SALE: the slot is released and the dispenser is IDLE,
with a watch where the station has seen the enable (R143, R146, R149); CANCEL SALE stops a delivery (R146); a sale that
stays unsettled for 60 s without its station settles on its highest volume (R148, R152). The station is told each
(R137). That an expiry stands at its own time, t.now = max s.now e, is the model's choice (log entry 6). -/
def Obligations.SaleEndings : Prop :=
  ∀ (s : State) (d : DispenserId) (y : Sale), (s.dispenser d).sale = some y →
    let ended (t : State) : Prop :=
      (t.dispenser d).state = .idle ∧ (t.dispenser d).sale = none ∧ (t.dispenser d).nozzleTimer = none ∧
      (t.dispenser d).watch = (if (s.dispenser d).enableSeen then some { volume := 0, sale := none }
                               else (s.dispenser d).watch) ∧
      t.holdSlot (slotOf d) = none ∧ t.fuel.journal = s.fuel.journal ∧ (∀ q, q ≠ d → t.dispenser q = s.dispenser q) ∧
      (∀ st, (s.dispenser d).station = some st → t.ShowsSale st false 0 0 false)
    (∀ e, s.part.condition = .running → (s.dispenser d).nozzleTimer = some e → (s.dispenser d).state = .authorised →
      (s.dispenserStation d = some .online → ∃ t, exec (.nozzleTimeout d) s = .next t ∧ t.now = max s.now e ∧ ended t ∧
        (s.trunk.notices.length < 62 →
          ({ note := .saleLapsed d y.account y.preset, time := s.stamp } : Notice) ∈ t.trunk.notices) ∧
        t.KeepsBut s [.part, .ledger, .notices, .fuel, .link, .power, .water]) ∧
      (s.dispenserStation d ≠ some .online → ∃ t, exec (.nozzleTimeout d) s = .next t ∧ t.now = max s.now e ∧
        (t.dispenser d).state = .settling ∧ (t.dispenser d).sale = some y ∧ (t.dispenser d).nozzleTimer = none ∧
        t.KeepsBut s [.part, .fuel, .link])) ∧
    (∀ h w, s.Takes h 0x41 w → rd w 0 2 = d.val →
      ((s.dispenser d).state = .authorised → ∃ t, exec (.cancelSale h w) s = .next t ∧
        t.Replies s h 0x41 (.done []) ∧ ended t ∧ t.KeepsBut s [.answers, .ledger, .notices, .fuel, .link, .power, .water]) ∧
      ((s.dispenser d).state = .delivering → ∃ t, exec (.cancelSale h w) s = .next t ∧
        t.Replies s h 0x41 (.done []) ∧ (t.dispenser d).state = .settling ∧
        (t.dispenser d).sale = some { y with stopped := true } ∧ (∀ q, q ≠ d → t.dispenser q = s.dispenser q) ∧
        (∀ st, (s.dispenser d).station = some st → t.ShowsSale st false y.preset y.price true) ∧
        t.KeepsBut s [.answers, .fuel, .link]) ∧
      ((s.dispenser d).state ≠ .authorised → (s.dispenser d).state ≠ .delivering →
        s.Refuses (.cancelSale h w) h 0x41 .state 0)) ∧
    (∀ e, s.part.condition = .running → (s.dispenser d).settleTimer = some e →
      ∃ t r, exec (.offlineSettleTimeout d) s = .next t ∧ t.now = max s.now e ∧
        t.fuel.journal = s.fuel.journal ++ [r] ∧ t.fuel.nextSale = (s.fuel.nextSale + 1) % 65536 ∧
        r.number = s.fuel.nextSale ∧ r.dispenser = d ∧ r.account = y.account ∧ r.volume = y.highest ∧ r.price = y.price ∧
        r.estimated = true ∧ r.clamped = decide (y.highest > 200000) ∧
        r.amount = (if y.highest = 0 then 0
          else (min y.highest 200000 * y.price + (s.account y.account).residueFuel) / 10000) ∧
        (t.dispenser d).sale = none ∧ (t.dispenser d).state = (if s.lines.estop.taken = .asserted then .stopped else .idle) ∧
        (t.dispenser d).watch = some { volume := y.highest, sale := some s.fuel.nextSale } ∧
        t.holdSlot (slotOf d) = none ∧ (∀ st, (s.dispenser d).station = some st →
          t.ShowsSale st false 0 0 (decide (s.lines.estop.taken = .asserted))) ∧
        (t.tank (s.dispenser d).grade).stock = (s.tank (s.dispenser d).grade).stock - y.highest ∧
        t.KeepsBut s [.part, .ledger, .notices, .fuel, .link, .power, .water])

/-- ESTOP taken as asserted settles every delivery as stopped, ends every authorisation, and makes every IDLE dispenser
STOPPED; taken as released it makes every STOPPED dispenser IDLE; each raises its notice (R151, R189). That the first
release after a start, from taken level UNKNOWN, raises FUEL_ESTOP too is the model's reading against the worked sequence
(log entry 31). -/
def Obligations.EmergencyStop : Prop :=
  ∀ (s : State), s.part.condition = .running →
    (s.lines.estop.taken ≠ .asserted → ∃ t, exec .estopAsserted s = .next t ∧ t.lines.estop.taken = .asserted ∧
      t.lines.fire = s.lines.fire ∧
      (∀ d, (s.dispenser d).state = .delivering → (t.dispenser d).state = .settling ∧
        (t.dispenser d).sale = (s.dispenser d).sale.map (fun y => { y with stopped := true })) ∧
      (∀ d, (s.dispenser d).state = .authorised → (t.dispenser d).state = .stopped ∧ (t.dispenser d).sale = none ∧
        t.holdSlot (slotOf d) = none) ∧
      (∀ d, (s.dispenser d).state = .idle → (t.dispenser d).state = .stopped) ∧
      (∀ d, (s.dispenser d).state = .closed → t.dispenser d = s.dispenser d) ∧
      (s.trunk.notices.length < 56 → ({ note := .fuelEstop true, time := s.stamp } : Notice) ∈ t.trunk.notices) ∧
      t.KeepsBut s [.inputs, .ledger, .notices, .fuel, .link, .power, .water]) ∧
    (s.lines.estop.taken ≠ .released → ∃ t, exec .estopReleased s = .next t ∧ t.lines.estop.taken = .released ∧
      t.lines.fire = s.lines.fire ∧
      (∀ d, (s.dispenser d).state = .stopped → (t.dispenser d).state = .idle) ∧
      (∀ d, (s.dispenser d).state ≠ .stopped → (t.dispenser d).state = (s.dispenser d).state) ∧
      (s.trunk.notices.length < 64 →
        t.trunk.notices = s.trunk.notices ++ [{ note := .fuelEstop false, time := s.stamp }]) ∧
      t.KeepsBut s [.inputs, .notices, .fuel, .link])

/-- READ SALE answers the oldest record and leaves it, or DONE with an empty payload; DROP SALE removes the oldest record
when its number is given, and is refused MISMATCH for another number and STATE for an empty journal. The two bytes of its
payload name no number above 65,535 (R153). -/
def Obligations.ReadSaleAndDropSale : Prop :=
  ∀ (s : State) (h : ReqHeader) (w : List Byte),
    (∀ r rest, s.Takes h 0x46 w → s.fuel.journal = r :: rest → ∃ t, exec (.readSale h w) s = .next t ∧
      t.Replies s h 0x46 (.done r.coded) ∧ t.KeepsBut s [.answers]) ∧
    (s.Takes h 0x46 w → s.fuel.journal = [] → ∃ t, exec (.readSale h w) s = .next t ∧ t.Replies s h 0x46 (.done []) ∧
      t.KeepsBut s [.answers]) ∧
    (∀ r rest, s.Takes h 0x47 w → s.fuel.journal = r :: rest → rd w 0 2 = r.number →
      ∃ t, exec (.dropSale h w) s = .next t ∧ t.Replies s h 0x47 (.done []) ∧
        t.fuel = { s.fuel with journal := rest } ∧ t.fuel.journal.length + 1 = s.fuel.journal.length ∧
        t.KeepsBut s [.answers, .fuel]) ∧
    (∀ r rest, s.Takes h 0x47 w → s.fuel.journal = r :: rest → rd w 0 2 ≠ r.number →
      s.Refuses (.dropSale h w) h 0x47 .mismatch 0) ∧
    (s.Takes h 0x47 w → s.fuel.journal = [] → s.Refuses (.dropSale h w) h 0x47 .state 0) ∧
    rd w 0 2 ≤ 65535

/-! ### Gates and credentials (R155 to R171) -/

/-- WRITE RECORD to the credential table fills a slot, keeping the zone of the same number, or empties it with kind NONE;
a number in another slot is a DUPLICATE (R156). WRITE RECORD to the gate table writes its three settings (R158). SET
HEADCOUNT writes the count, at most 255, and clears UNRELIABLE, while the gates are not released (R169). An EXIT_ONLY
credential whose expiry a clock event has met becomes EXPIRED (R157); that it waits for its row is the model's choice (log
entry 8). -/
def Obligations.CredentialsGatesAndHeadcount : Prop :=
  ∀ (s : State) (h : ReqHeader) (w : List Byte),
    (∀ i : CredentialSlot, s.Writes h .credential w i.val →
      (∀ v, (rdCredential (w.drop 2)).kind ≠ 4 → checkCredential (rdCredential (w.drop 2)) = some v →
        ((∀ j c, j ≠ i → s.credential j = some c → c.number ≠ v.number) → s.credentialStale v = false →
          ∃ t c, exec (.writeCredentialRecord h w) s = .next t ∧ t.Replies s h 0x05 (.done []) ∧
            t.access = (s.setCredential i (some c)).access ∧ c.number = v.number ∧ c.kind = v.kind ∧ c.stay = v.stay ∧
            c.account = v.account ∧ c.pontoons = v.pontoons ∧ c.validFrom = v.validFrom ∧ c.validTo = v.validTo ∧
            c.state = v.state ∧ c.exitExpiry = none ∧
            (∀ x, s.credential i = some x → c.zone = if x.number = v.number then x.zone else none) ∧
            t.KeepsBut s [.answers, .access]) ∧
        (∀ j c, j ≠ i → s.credential j = some c → c.number = v.number →
          s.Refuses (.writeCredentialRecord h w) h 0x05 .duplicate 0)) ∧
      ((rdCredential (w.drop 2)).kind = 4 →
        ∃ t, exec (.writeCredentialRecord h w) s = .next t ∧ t.Replies s h 0x05 (.done []) ∧
          t.access = (s.setCredential i none).access ∧ t.KeepsBut s [.answers, .access])) ∧
    (∀ (g : PontoonId) v, s.Writes h .gate w g.val → checkGate (rdGate (w.drop 2)) = some v →
      (v.reader = none ∨ ∀ q, q ≠ g → (s.gate q).reader ≠ v.reader) →
      ((s.gate g).reader = v.reader ∨ (s.gate g).passages = []) →
      ∃ t, exec (.writeGateRecord h w) s = .next t ∧ t.Replies s h 0x05 (.done []) ∧
        t.access = (s.setGate g { s.gate g with reader := v.reader, unlockTime := v.unlockTime,
                                                heldLimit := v.heldLimit }).access ∧
        t.KeepsBut s [.answers, .access, .link]) ∧
    (∀ (p : PontoonId) n, s.Takes h 0x52 w → rd w 0 2 = p.val → rd w 2 2 = n →
      (s.gatesReleased = false →
        ∃ t, exec (.setHeadcount h w) s = .next t ∧ t.Replies s h 0x52 (.done (le 1 (min 255 n))) ∧
          t.access = (s.setGate p { s.gate p with headcount := min 255 n, unreliable := false }).access ∧
          t.KeepsBut s [.answers, .access]) ∧
      (s.gatesReleased = true → s.Refuses (.setHeadcount h w) h 0x52 .state 0)) ∧
    (∀ i c, s.part.condition = .running → s.credential i = some c → c.state = .exitOnly → c.expiryMet = true →
      ∃ t, exec (.exitOnlyExpiry i) s = .next t ∧
        t.access = (s.setCredential i (some { c with state := .expired, exitExpiry := none, expiryMet := false })).access ∧
        t.KeepsBut s [.access])

/-- At the end of the unlock time a gate is LOCKED, its pending passages gone with VOID records in the log (R166, R170);
the door-held timer raises GATE_HELD_OPEN (R167); CLEAR GATE ALARM clears the forced flag (R167). FIRE and RELEASE GATES
release every gate in use, with its passages gone to VOID records and its count UNRELIABLE (R168); the gates are LOCKED
again once neither holds, and while the other cause holds a new or ended cause moves no gate (R168, R169). The readers
show it (R159). The model's choices: an expiry stands at its own time, t.now = max s.now e (log entry 6); the gates are released in
ascending order (log entry 25); FIRE_ASSERTED while FIRE is already ASSERTED changes nothing (log entry 4). -/
def Obligations.GateTimersAndEmergencyRelease : Prop :=
  ∀ (s : State) (h : ReqHeader) (w : List Byte),
    let released (t : State) : Prop := ∀ g, s.gateInUse g = true →
      (t.gate g).lock = .released ∧ (t.gate g).passages = [] ∧ (t.gate g).unlockEnd = none ∧ (t.gate g).heldTimer = none ∧
      (t.gate g).unreliable = true ∧ (t.gate g).display = 12 ∧ (t.gate g).headcount = (s.gate g).headcount ∧
      t.ShowsGate g
    let unused (t : State) : Prop := ∀ g, s.gateInUse g = false → t.gate g = s.gate g
    let voided (t : State) : Prop := t.access.credentials = s.access.credentials ∧
      t.Voided s ((List.finRange 12).flatMap (fun g =>
        if s.gateInUse g then (s.gate g).passages.map (fun x => (g, x)) else []))
    let secured (t : State) : Prop := (∀ g, t.gate g =
        if s.gateInUse g = true ∧ (s.gate g).lock = .released then { s.gate g with lock := .locked, display := 0 }
        else s.gate g) ∧ t.access.credentials = s.access.credentials ∧ t.access.log = s.access.log ∧
      ∀ g, s.gateInUse g = true → (s.gate g).lock = .released → t.ShowsGate g
    let notes (t : State) (n : Note) : Prop :=
      s.trunk.notices.length < 64 → t.trunk.notices = s.trunk.notices ++ [{ note := n, time := s.stamp }]
    (∀ g e, s.part.condition = .running → (s.gate g).unlockEnd = some e →
      ∃ t, exec (.unlockTimerExpiry g) s = .next t ∧ t.now = max s.now e ∧
        t.gate g = { s.gate g with lock := .locked, unlockEnd := none, passages := [], display := 0 } ∧ t.ShowsGate g ∧
        (∀ q, q ≠ g → t.gate q = s.gate q) ∧ t.access.credentials = s.access.credentials ∧
        t.Voided s ((s.gate g).passages.map (fun x => (g, x))) ∧ t.KeepsBut s [.part, .access, .link]) ∧
    (∀ g e, s.part.condition = .running → (s.gate g).heldTimer = some e →
      ∃ t, exec (.doorHeldTimeout g) s = .next t ∧ t.now = max s.now e ∧
        t.access = (s.setGate g { s.gate g with heldTimer := none }).access ∧
        notes t (.gateHeldOpen g (s.gate g).lock) ∧ t.KeepsBut s [.part, .access, .notices]) ∧
    (∀ g : PontoonId, s.Takes h 0x53 w → rd w 0 2 = g.val → ∃ t, exec (.clearGateAlarm h w) s = .next t ∧
      t.Replies s h 0x53 (.done []) ∧
      t.access = (s.setGate g { s.gate g with forced := false }).access ∧ t.KeepsBut s [.answers, .access]) ∧
    (s.part.condition = .running → s.lines.fire.taken ≠ .asserted → ∃ t, exec .fireAsserted s = .next t ∧
      t.lines.fire.taken = .asserted ∧ t.lines.estop = s.lines.estop ∧
      (s.access.officeRelease = false → released t ∧ unused t ∧ voided t ∧ notes t (.gatesReleased .fire) ∧
        t.access.officeRelease = false ∧ t.KeepsBut s [.inputs, .access, .notices, .link]) ∧
      (s.access.officeRelease = true → t.KeepsBut s [.inputs])) ∧
    (s.part.condition = .running → s.lines.fire.taken = .asserted → ∃ t, exec .fireAsserted s = .next t ∧
      t.KeepsBut s []) ∧
    (s.part.condition = .running → ∃ t, exec .fireReleased s = .next t ∧
      t.lines.fire.taken = .released ∧ t.lines.estop = s.lines.estop ∧
      (s.lines.fire.taken = .asserted → s.access.officeRelease = false → secured t ∧ notes t (.gatesSecured .fire) ∧
        t.access.officeRelease = false ∧ t.KeepsBut s [.inputs, .access, .notices, .link]) ∧
      (s.lines.fire.taken ≠ .asserted ∨ s.access.officeRelease = true → t.KeepsBut s [.inputs])) ∧
    (s.Takes h 0x50 w → s.access.officeRelease = false → ∃ t, exec (.releaseGates h w) s = .next t ∧
      t.Replies s h 0x50 (.done []) ∧ t.access.officeRelease = true ∧
      (s.lines.fire.taken ≠ .asserted → released t ∧ unused t ∧ voided t ∧ notes t (.gatesReleased .office) ∧
        t.KeepsBut s [.answers, .access, .notices, .link]) ∧
      (s.lines.fire.taken = .asserted → t.access = { s.access with officeRelease := true } ∧
        t.KeepsBut s [.answers, .access])) ∧
    (s.Takes h 0x50 w → s.access.officeRelease = true → s.Refuses (.releaseGates h w) h 0x50 .state 0) ∧
    (s.Takes h 0x51 w → s.access.officeRelease = true → ∃ t, exec (.secureGates h w) s = .next t ∧
      t.Replies s h 0x51 (.done []) ∧ t.access.officeRelease = false ∧
      (s.lines.fire.taken ≠ .asserted → secured t ∧ notes t (.gatesSecured .office) ∧
        t.KeepsBut s [.answers, .access, .notices, .link]) ∧
      (s.lines.fire.taken = .asserted → t.access = { s.access with officeRelease := false } ∧
        t.KeepsBut s [.answers, .access])) ∧
    (s.Takes h 0x51 w → s.access.officeRelease = false → s.Refuses (.secureGates h w) h 0x51 .state 0)

/-! ### The clock, the signal lines and the starts (R185 to R192) -/

/-- A second of a set clock adds one, up to the last value, and the deadlines it reaches are met (R185): a lapse, a lead
submission, an overstay, the expiry of a hold, and the exit expiry of an EXIT_ONLY credential (R16, R19, R28, R51, R157).
SET CLOCK sets value and rollover time, answers the value and flag as they stood, and the first one sets the rollover day;
a rollover time out of range is BAD_VALUE (R59, R186). At the end of its stretch timer a line follows its demand (R188).
Model's choices: the first advance comes a second after the setting (log entry 5), an expiry stands at its own time, t.now
= max s.now e (log entry 6), a met deadline is a mark (log entries 8 and 34), and the set flag of SET CLOCK's answer is a byte, 1
for set (log entry 46). -/
def Obligations.ClockAndSignalLines : Prop :=
  ∀ (s : State),
    let met (t : State) : Prop :=
      (∀ y, (t.stay y).lapseMet = ((s.stay y).lapseMet || (decide ((s.stay y).state = .expected) &&
        decide ((s.stay y).settings.arrival + (s.stay y).settings.holdGrace * 3600 ≤ t.clock.value)))) ∧
      (∀ y, (t.stay y).overstayMet = ((s.stay y).overstayMet || (decide ((s.stay y).state = .arrived) &&
        !(s.stay y).overstayNoted && decide ((s.stay y).settings.departure ≤ t.clock.value)))) ∧
      (∀ y, (t.stay y).leadMet =
        if (s.stay y).state = .expected ∧ (s.stay y).settings.arrival ≤ t.clock.value + s.settings.lead * 3600
        then some (min s.settings.lead ((s.stay y).leadMet.getD s.settings.lead)) else (s.stay y).leadMet) ∧
      (∀ y, t.stay y = { s.stay y with lapseMet := (t.stay y).lapseMet, overstayMet := (t.stay y).overstayMet,
                                       leadMet := (t.stay y).leadMet }) ∧
      (∀ k, t.holdSlot k = (s.holdSlot k).map (fun x =>
        { x with expiryMet := x.expiryMet || x.expiry.any (fun e => decide (e ≤ t.clock.value)) })) ∧
      (∀ i, t.credential i = (s.credential i).map (fun c =>
        { c with expiryMet := c.expiryMet || (decide (c.state = .exitOnly) &&
          c.exitExpiry.any (fun e => decide (e ≤ t.clock.value))) })) ∧
      t.register.berths = s.register.berths ∧ t.register.pontoons = s.register.pontoons ∧ t.arrivals = s.arrivals ∧
      t.ledger.accounts = s.ledger.accounts ∧ t.ledger.tariff = s.ledger.tariff ∧ t.ledger.pass = s.ledger.pass ∧
      t.access.gates = s.access.gates ∧ t.access.log = s.access.log
    (s.part.condition = .running → s.clock.isSet = true → s.clock.value < 4294967295 →
      ∃ t, exec .clockAdvance s = .next t ∧ t.now = max s.now s.clock.nextAdvance ∧
        t.clock = { s.clock with value := s.clock.value + 1, nextAdvance := s.clock.nextAdvance + 1000 } ∧ met t ∧
        t.ledger.rolloverDay = s.ledger.rolloverDay ∧ t.KeepsBut s [.part, .clock, .register, .ledger, .access]) ∧
    (s.part.condition = .running → s.clock.isSet = true → s.clock.value = 4294967295 →
      ∃ t, exec .clockAdvance s = .next t ∧ t.clock.value = 4294967295 ∧ t.KeepsBut s [.part, .clock]) ∧
    (∀ h v r w, s.Takes h 0x60 w → rd w 0 4 = v → rd w 4 4 = r → r ≤ 86399 → ∃ t, exec (.setClock h w) s = .next t ∧
      t.Replies s h 0x60 (.done (le 4 s.clock.value ++ yn s.clock.isSet)) ∧ t.clock.value = v ∧ t.clock.isSet = true ∧
      t.clock.rollover = r ∧ t.clock.nextAdvance = s.now + 1000 ∧ met t ∧
      (s.ledger.rolloverDay = none → t.ledger.rolloverDay = some (((v : Int) - r) / 86400)) ∧
      (∀ d, s.ledger.rolloverDay = some d → t.ledger.rolloverDay = some d) ∧
      t.KeepsBut s [.answers, .clock, .register, .ledger, .access]) ∧
    (∀ h w, s.Takes h 0x60 w → 86399 < rd w 4 4 → s.Refuses (.setClock h w) h 0x60 .badValue 0) ∧
    (∀ i e, s.part.condition = .running → (s.signal i).timer = some e →
      ∃ t, exec (.stretchTimerExpiry i) s = .next t ∧ t.now = max s.now e ∧ (t.signal i).timer = none ∧
        (t.signal i).asserted = (s.signal i).demand s.sources ∧ t.KeepsBut s [.part])

/-- The starts: the supply's loss and the RESET line stop the part (R191); RESET's release, a promised restart and a power-up
with a memory that agrees with its check value restart it with what it has retained (R190, R191); a promised full clear, and a
power-up without such a memory, clear every table, the signal records among them (R191, R192). Model's choices: the operands of
the starts, and a loss that cuts an event short leaving memory and check value disagreeing (log entry 27); RESET keeps its level
across a power cycle, and a power-up under a low RESET is held in reset at once (log entry 35); answers still owed are dropped
at a start (log entry 56). A restart fills the attention lists by the conditions of the dispensers and posts, and lists no
reader and no feeder monitor (R77, R108, R132, R154, R171). -/
def Obligations.StartsRestartOrClear : Prop :=
  ∀ (s : State),
    (∃ t, exec .resetAsserted s = .next t ∧ t.lines = s.lines ∧ t.KeepsBut s [.part] ∧
      t.part = { s.part with resetLow := true, condition := if s.part.condition = .running then .inReset
                                                            else s.part.condition }) ∧
    (∀ cut, s.part.condition = .running → ∃ t, exec (.powerLoss cut) s = .next t ∧
      t.part = { s.part with condition := .unpowered, retentionAgrees := s.part.retentionAgrees && !cut } ∧
      t.KeepsBut s [.part]) ∧
    (∀ cut, s.part.condition = .inReset → ∃ t, exec (.powerLoss cut) s = .next t ∧
      t.part = { s.part with condition := .unpowered } ∧ t.KeepsBut s [.part]) ∧
    (∀ elapsed low, s.part.condition = .inReset →
      ∃ t, exec (.resetReleased elapsed low) s = .next t ∧ t.Restarted s .resetLine elapsed low ∧ t.part.resetLow = false) ∧
    (∀ elapsed low, s.part.condition = .unpowered → ∃ t, exec (.resetReleased elapsed low) s = .next t ∧
      t.part = { s.part with resetLow := false } ∧ t.KeepsBut s [.part]) ∧
    (∀ elapsed low, s.part.condition = .running → s.trunk.commandStart = .restartDue →
      ∃ t, exec (.commandRestart elapsed low) s = .next t ∧ t.Restarted s .command elapsed low) ∧
    (∀ elapsed low, s.part.condition = .unpowered → s.part.retentionAgrees = true → s.part.resetLow = false →
      ∃ t, exec (.powerUp true elapsed low) s = .next t ∧ t.Restarted s .power elapsed low) ∧
    (∀ held elapsed low, s.part.condition = .unpowered → held = false ∨ s.part.retentionAgrees = false →
      s.part.resetLow = false →
      ∃ t, exec (.powerUp held elapsed low) s = .next t ∧
        t.Cleared s .retentionLost (if low then .setup else .run)) ∧
    (∀ held elapsed low, s.part.condition = .unpowered → s.part.resetLow = true →
      ∃ t u, exec (.powerUp held elapsed low) s = .next t ∧
        exec (.powerUp held elapsed low) { s with part := { s.part with resetLow := false } } = .next u ∧
        t.part = { u.part with condition := .inReset, resetLow := true } ∧ t.lines = u.lines ∧ t.KeepsBut u [.part]) ∧
    (s.part.condition = .running → s.trunk.commandStart = .clearDue →
      ∃ t, exec .clearCommandFullClear s = .next t ∧ t.Cleared s .clearCommand .setup)
end

