-- ==== Sys2Proof/Laws/State.lean ====
section
/-! SUPPORT. Reading a record after an update: one lemma for each field and each update of `State`, so that no proof unfolds a
record update. -/

namespace Sys2Proof.Machine

section Updates

variable (s : State)

/-! ### setStay -/

@[simp] theorem setStay_stay (i : StayId) (x : Stay) : (s.setStay i x).stay i = x := by
  simp [State.stay, State.setStay]
theorem setStay_stay_if (i j : StayId) (x : Stay) : (s.setStay i x).stay j = if i = j then x else s.stay j := by
  by_cases h : i = j
  · subst h; simp
  · have h' : i.val ≠ j.val := fun e => h (Fin.ext e)
    simp [State.stay, State.setStay, h, h']
theorem setStay_stay_ne {i j : StayId} (x : Stay) (h : i ≠ j) : (s.setStay i x).stay j = s.stay j := by
  simp [setStay_stay_if, h]
@[simp] theorem setStay_pending (i : StayId) (x : Stay) : (s.setStay i x).pending = s.pending := rfl
@[simp] theorem setStay_part (i : StayId) (x : Stay) : (s.setStay i x).part = s.part := rfl
@[simp] theorem setStay_trunk (i : StayId) (x : Stay) : (s.setStay i x).trunk = s.trunk := rfl
@[simp] theorem setStay_settings (i : StayId) (x : Stay) : (s.setStay i x).settings = s.settings := rfl
@[simp] theorem setStay_clock (i : StayId) (x : Stay) : (s.setStay i x).clock = s.clock := rfl
@[simp] theorem setStay_engine (i : StayId) (x : Stay) : (s.setStay i x).engine = s.engine := rfl
@[simp] theorem setStay_ledger (i : StayId) (x : Stay) : (s.setStay i x).ledger = s.ledger := rfl
@[simp] theorem setStay_link (i : StayId) (x : Stay) : (s.setStay i x).link = s.link := rfl
@[simp] theorem setStay_power (i : StayId) (x : Stay) : (s.setStay i x).power = s.power := rfl
@[simp] theorem setStay_water (i : StayId) (x : Stay) : (s.setStay i x).water = s.water := rfl
@[simp] theorem setStay_fuel (i : StayId) (x : Stay) : (s.setStay i x).fuel = s.fuel := rfl
@[simp] theorem setStay_access (i : StayId) (x : Stay) : (s.setStay i x).access = s.access := rfl
@[simp] theorem setStay_lines (i : StayId) (x : Stay) : (s.setStay i x).lines = s.lines := rfl
@[simp] theorem setStay_register_pontoons (i : StayId) (x : Stay) : (s.setStay i x).register.pontoons = s.register.pontoons := rfl
@[simp] theorem setStay_register_berths (i : StayId) (x : Stay) : (s.setStay i x).register.berths = s.register.berths := rfl
@[simp] theorem setStay_register_arrivals (i : StayId) (x : Stay) : (s.setStay i x).register.arrivals = s.register.arrivals := rfl
@[simp] theorem setStay_register_stays (i : StayId) (x : Stay) : (s.setStay i x).register.stays = s.register.stays.set i x := rfl
@[simp] theorem setStay_get_berth (i : StayId) (x : Stay) (j : BerthId) : (s.setStay i x).berth j = s.berth j := rfl
@[simp] theorem setStay_get_pontoon (i : StayId) (x : Stay) (j : PontoonId) : (s.setStay i x).pontoon j = s.pontoon j := rfl
@[simp] theorem setStay_get_account (i : StayId) (x : Stay) (j : AccountId) : (s.setStay i x).account j = s.account j := rfl
@[simp] theorem setStay_get_holdSlot (i : StayId) (x : Stay) (j : HoldSlot) : (s.setStay i x).holdSlot j = s.holdSlot j := rfl
@[simp] theorem setStay_get_branch (i : StayId) (x : Stay) (j : BranchId) : (s.setStay i x).branch j = s.branch j := rfl
@[simp] theorem setStay_get_station (i : StayId) (x : Stay) (j : StationId) : (s.setStay i x).station j = s.station j := rfl
@[simp] theorem setStay_get_outlet (i : StayId) (x : Stay) (j : OutletId) : (s.setStay i x).outlet j = s.outlet j := rfl
@[simp] theorem setStay_get_feeder (i : StayId) (x : Stay) (j : PontoonId) : (s.setStay i x).feeder j = s.feeder j := rfl
@[simp] theorem setStay_get_start (i : StayId) (x : Stay) (j : PontoonId) : (s.setStay i x).start j = s.start j := rfl
@[simp] theorem setStay_get_tap (i : StayId) (x : Stay) (j : TapId) : (s.setStay i x).tap j = s.tap j := rfl
@[simp] theorem setStay_get_tank (i : StayId) (x : Stay) (j : GradeId) : (s.setStay i x).tank j = s.tank j := rfl
@[simp] theorem setStay_get_dispenser (i : StayId) (x : Stay) (j : DispenserId) : (s.setStay i x).dispenser j = s.dispenser j := rfl
@[simp] theorem setStay_get_gate (i : StayId) (x : Stay) (j : PontoonId) : (s.setStay i x).gate j = s.gate j := rfl
@[simp] theorem setStay_get_credential (i : StayId) (x : Stay) (j : CredentialSlot) : (s.setStay i x).credential j = s.credential j := rfl
@[simp] theorem setStay_get_signal (i : StayId) (x : Stay) (j : Fin 2) : (s.setStay i x).signal j = s.signal j := rfl
@[simp] theorem setStay_get_now (i : StayId) (x : Stay) : (s.setStay i x).now = s.now := rfl
@[simp] theorem setStay_get_stamp (i : StayId) (x : Stay) : (s.setStay i x).stamp = s.stamp := rfl
@[simp] theorem setStay_get_arrivals (i : StayId) (x : Stay) : (s.setStay i x).arrivals = s.arrivals := rfl

/-! ### setBerth -/

@[simp] theorem setBerth_berth (i : BerthId) (x : Berth) : (s.setBerth i x).berth i = x := by
  simp [State.berth, State.setBerth]
theorem setBerth_berth_if (i j : BerthId) (x : Berth) : (s.setBerth i x).berth j = if i = j then x else s.berth j := by
  by_cases h : i = j
  · subst h; simp
  · have h' : i.val ≠ j.val := fun e => h (Fin.ext e)
    simp [State.berth, State.setBerth, h, h']
theorem setBerth_berth_ne {i j : BerthId} (x : Berth) (h : i ≠ j) : (s.setBerth i x).berth j = s.berth j := by
  simp [setBerth_berth_if, h]
@[simp] theorem setBerth_pending (i : BerthId) (x : Berth) : (s.setBerth i x).pending = s.pending := rfl
@[simp] theorem setBerth_part (i : BerthId) (x : Berth) : (s.setBerth i x).part = s.part := rfl
@[simp] theorem setBerth_trunk (i : BerthId) (x : Berth) : (s.setBerth i x).trunk = s.trunk := rfl
@[simp] theorem setBerth_settings (i : BerthId) (x : Berth) : (s.setBerth i x).settings = s.settings := rfl
@[simp] theorem setBerth_clock (i : BerthId) (x : Berth) : (s.setBerth i x).clock = s.clock := rfl
@[simp] theorem setBerth_engine (i : BerthId) (x : Berth) : (s.setBerth i x).engine = s.engine := rfl
@[simp] theorem setBerth_ledger (i : BerthId) (x : Berth) : (s.setBerth i x).ledger = s.ledger := rfl
@[simp] theorem setBerth_link (i : BerthId) (x : Berth) : (s.setBerth i x).link = s.link := rfl
@[simp] theorem setBerth_power (i : BerthId) (x : Berth) : (s.setBerth i x).power = s.power := rfl
@[simp] theorem setBerth_water (i : BerthId) (x : Berth) : (s.setBerth i x).water = s.water := rfl
@[simp] theorem setBerth_fuel (i : BerthId) (x : Berth) : (s.setBerth i x).fuel = s.fuel := rfl
@[simp] theorem setBerth_access (i : BerthId) (x : Berth) : (s.setBerth i x).access = s.access := rfl
@[simp] theorem setBerth_lines (i : BerthId) (x : Berth) : (s.setBerth i x).lines = s.lines := rfl
@[simp] theorem setBerth_register_pontoons (i : BerthId) (x : Berth) : (s.setBerth i x).register.pontoons = s.register.pontoons := rfl
@[simp] theorem setBerth_register_stays (i : BerthId) (x : Berth) : (s.setBerth i x).register.stays = s.register.stays := rfl
@[simp] theorem setBerth_register_arrivals (i : BerthId) (x : Berth) : (s.setBerth i x).register.arrivals = s.register.arrivals := rfl
@[simp] theorem setBerth_register_berths (i : BerthId) (x : Berth) : (s.setBerth i x).register.berths = s.register.berths.set i x := rfl
@[simp] theorem setBerth_get_stay (i : BerthId) (x : Berth) (j : StayId) : (s.setBerth i x).stay j = s.stay j := rfl
@[simp] theorem setBerth_get_pontoon (i : BerthId) (x : Berth) (j : PontoonId) : (s.setBerth i x).pontoon j = s.pontoon j := rfl
@[simp] theorem setBerth_get_account (i : BerthId) (x : Berth) (j : AccountId) : (s.setBerth i x).account j = s.account j := rfl
@[simp] theorem setBerth_get_holdSlot (i : BerthId) (x : Berth) (j : HoldSlot) : (s.setBerth i x).holdSlot j = s.holdSlot j := rfl
@[simp] theorem setBerth_get_branch (i : BerthId) (x : Berth) (j : BranchId) : (s.setBerth i x).branch j = s.branch j := rfl
@[simp] theorem setBerth_get_station (i : BerthId) (x : Berth) (j : StationId) : (s.setBerth i x).station j = s.station j := rfl
@[simp] theorem setBerth_get_outlet (i : BerthId) (x : Berth) (j : OutletId) : (s.setBerth i x).outlet j = s.outlet j := rfl
@[simp] theorem setBerth_get_feeder (i : BerthId) (x : Berth) (j : PontoonId) : (s.setBerth i x).feeder j = s.feeder j := rfl
@[simp] theorem setBerth_get_start (i : BerthId) (x : Berth) (j : PontoonId) : (s.setBerth i x).start j = s.start j := rfl
@[simp] theorem setBerth_get_tap (i : BerthId) (x : Berth) (j : TapId) : (s.setBerth i x).tap j = s.tap j := rfl
@[simp] theorem setBerth_get_tank (i : BerthId) (x : Berth) (j : GradeId) : (s.setBerth i x).tank j = s.tank j := rfl
@[simp] theorem setBerth_get_dispenser (i : BerthId) (x : Berth) (j : DispenserId) : (s.setBerth i x).dispenser j = s.dispenser j := rfl
@[simp] theorem setBerth_get_gate (i : BerthId) (x : Berth) (j : PontoonId) : (s.setBerth i x).gate j = s.gate j := rfl
@[simp] theorem setBerth_get_credential (i : BerthId) (x : Berth) (j : CredentialSlot) : (s.setBerth i x).credential j = s.credential j := rfl
@[simp] theorem setBerth_get_signal (i : BerthId) (x : Berth) (j : Fin 2) : (s.setBerth i x).signal j = s.signal j := rfl
@[simp] theorem setBerth_get_now (i : BerthId) (x : Berth) : (s.setBerth i x).now = s.now := rfl
@[simp] theorem setBerth_get_stamp (i : BerthId) (x : Berth) : (s.setBerth i x).stamp = s.stamp := rfl
@[simp] theorem setBerth_get_arrivals (i : BerthId) (x : Berth) : (s.setBerth i x).arrivals = s.arrivals := rfl

/-! ### setPontoon -/

@[simp] theorem setPontoon_pontoon (i : PontoonId) (x : PontoonSettings) : (s.setPontoon i x).pontoon i = x := by
  simp [State.pontoon, State.setPontoon]
theorem setPontoon_pontoon_if (i j : PontoonId) (x : PontoonSettings) : (s.setPontoon i x).pontoon j = if i = j then x else s.pontoon j := by
  by_cases h : i = j
  · subst h; simp
  · have h' : i.val ≠ j.val := fun e => h (Fin.ext e)
    simp [State.pontoon, State.setPontoon, h, h']
theorem setPontoon_pontoon_ne {i j : PontoonId} (x : PontoonSettings) (h : i ≠ j) : (s.setPontoon i x).pontoon j = s.pontoon j := by
  simp [setPontoon_pontoon_if, h]
@[simp] theorem setPontoon_pending (i : PontoonId) (x : PontoonSettings) : (s.setPontoon i x).pending = s.pending := rfl
@[simp] theorem setPontoon_part (i : PontoonId) (x : PontoonSettings) : (s.setPontoon i x).part = s.part := rfl
@[simp] theorem setPontoon_trunk (i : PontoonId) (x : PontoonSettings) : (s.setPontoon i x).trunk = s.trunk := rfl
@[simp] theorem setPontoon_settings (i : PontoonId) (x : PontoonSettings) : (s.setPontoon i x).settings = s.settings := rfl
@[simp] theorem setPontoon_clock (i : PontoonId) (x : PontoonSettings) : (s.setPontoon i x).clock = s.clock := rfl
@[simp] theorem setPontoon_engine (i : PontoonId) (x : PontoonSettings) : (s.setPontoon i x).engine = s.engine := rfl
@[simp] theorem setPontoon_ledger (i : PontoonId) (x : PontoonSettings) : (s.setPontoon i x).ledger = s.ledger := rfl
@[simp] theorem setPontoon_link (i : PontoonId) (x : PontoonSettings) : (s.setPontoon i x).link = s.link := rfl
@[simp] theorem setPontoon_power (i : PontoonId) (x : PontoonSettings) : (s.setPontoon i x).power = s.power := rfl
@[simp] theorem setPontoon_water (i : PontoonId) (x : PontoonSettings) : (s.setPontoon i x).water = s.water := rfl
@[simp] theorem setPontoon_fuel (i : PontoonId) (x : PontoonSettings) : (s.setPontoon i x).fuel = s.fuel := rfl
@[simp] theorem setPontoon_access (i : PontoonId) (x : PontoonSettings) : (s.setPontoon i x).access = s.access := rfl
@[simp] theorem setPontoon_lines (i : PontoonId) (x : PontoonSettings) : (s.setPontoon i x).lines = s.lines := rfl
@[simp] theorem setPontoon_register_berths (i : PontoonId) (x : PontoonSettings) : (s.setPontoon i x).register.berths = s.register.berths := rfl
@[simp] theorem setPontoon_register_stays (i : PontoonId) (x : PontoonSettings) : (s.setPontoon i x).register.stays = s.register.stays := rfl
@[simp] theorem setPontoon_register_arrivals (i : PontoonId) (x : PontoonSettings) : (s.setPontoon i x).register.arrivals = s.register.arrivals := rfl
@[simp] theorem setPontoon_register_pontoons (i : PontoonId) (x : PontoonSettings) : (s.setPontoon i x).register.pontoons = s.register.pontoons.set i x := rfl
@[simp] theorem setPontoon_get_stay (i : PontoonId) (x : PontoonSettings) (j : StayId) : (s.setPontoon i x).stay j = s.stay j := rfl
@[simp] theorem setPontoon_get_berth (i : PontoonId) (x : PontoonSettings) (j : BerthId) : (s.setPontoon i x).berth j = s.berth j := rfl
@[simp] theorem setPontoon_get_account (i : PontoonId) (x : PontoonSettings) (j : AccountId) : (s.setPontoon i x).account j = s.account j := rfl
@[simp] theorem setPontoon_get_holdSlot (i : PontoonId) (x : PontoonSettings) (j : HoldSlot) : (s.setPontoon i x).holdSlot j = s.holdSlot j := rfl
@[simp] theorem setPontoon_get_branch (i : PontoonId) (x : PontoonSettings) (j : BranchId) : (s.setPontoon i x).branch j = s.branch j := rfl
@[simp] theorem setPontoon_get_station (i : PontoonId) (x : PontoonSettings) (j : StationId) : (s.setPontoon i x).station j = s.station j := rfl
@[simp] theorem setPontoon_get_outlet (i : PontoonId) (x : PontoonSettings) (j : OutletId) : (s.setPontoon i x).outlet j = s.outlet j := rfl
@[simp] theorem setPontoon_get_feeder (i : PontoonId) (x : PontoonSettings) (j : PontoonId) : (s.setPontoon i x).feeder j = s.feeder j := rfl
@[simp] theorem setPontoon_get_start (i : PontoonId) (x : PontoonSettings) (j : PontoonId) : (s.setPontoon i x).start j = s.start j := rfl
@[simp] theorem setPontoon_get_tap (i : PontoonId) (x : PontoonSettings) (j : TapId) : (s.setPontoon i x).tap j = s.tap j := rfl
@[simp] theorem setPontoon_get_tank (i : PontoonId) (x : PontoonSettings) (j : GradeId) : (s.setPontoon i x).tank j = s.tank j := rfl
@[simp] theorem setPontoon_get_dispenser (i : PontoonId) (x : PontoonSettings) (j : DispenserId) : (s.setPontoon i x).dispenser j = s.dispenser j := rfl
@[simp] theorem setPontoon_get_gate (i : PontoonId) (x : PontoonSettings) (j : PontoonId) : (s.setPontoon i x).gate j = s.gate j := rfl
@[simp] theorem setPontoon_get_credential (i : PontoonId) (x : PontoonSettings) (j : CredentialSlot) : (s.setPontoon i x).credential j = s.credential j := rfl
@[simp] theorem setPontoon_get_signal (i : PontoonId) (x : PontoonSettings) (j : Fin 2) : (s.setPontoon i x).signal j = s.signal j := rfl
@[simp] theorem setPontoon_get_now (i : PontoonId) (x : PontoonSettings) : (s.setPontoon i x).now = s.now := rfl
@[simp] theorem setPontoon_get_stamp (i : PontoonId) (x : PontoonSettings) : (s.setPontoon i x).stamp = s.stamp := rfl
@[simp] theorem setPontoon_get_arrivals (i : PontoonId) (x : PontoonSettings) : (s.setPontoon i x).arrivals = s.arrivals := rfl

/-! ### setAccount -/

@[simp] theorem setAccount_account (i : AccountId) (x : Account) : (s.setAccount i x).account i = x := by
  simp [State.account, State.setAccount]
theorem setAccount_account_if (i j : AccountId) (x : Account) : (s.setAccount i x).account j = if i = j then x else s.account j := by
  by_cases h : i = j
  · subst h; simp
  · have h' : i.val ≠ j.val := fun e => h (Fin.ext e)
    simp [State.account, State.setAccount, h, h']
theorem setAccount_account_ne {i j : AccountId} (x : Account) (h : i ≠ j) : (s.setAccount i x).account j = s.account j := by
  simp [setAccount_account_if, h]
@[simp] theorem setAccount_pending (i : AccountId) (x : Account) : (s.setAccount i x).pending = s.pending := rfl
@[simp] theorem setAccount_part (i : AccountId) (x : Account) : (s.setAccount i x).part = s.part := rfl
@[simp] theorem setAccount_trunk (i : AccountId) (x : Account) : (s.setAccount i x).trunk = s.trunk := rfl
@[simp] theorem setAccount_settings (i : AccountId) (x : Account) : (s.setAccount i x).settings = s.settings := rfl
@[simp] theorem setAccount_clock (i : AccountId) (x : Account) : (s.setAccount i x).clock = s.clock := rfl
@[simp] theorem setAccount_register (i : AccountId) (x : Account) : (s.setAccount i x).register = s.register := rfl
@[simp] theorem setAccount_engine (i : AccountId) (x : Account) : (s.setAccount i x).engine = s.engine := rfl
@[simp] theorem setAccount_link (i : AccountId) (x : Account) : (s.setAccount i x).link = s.link := rfl
@[simp] theorem setAccount_power (i : AccountId) (x : Account) : (s.setAccount i x).power = s.power := rfl
@[simp] theorem setAccount_water (i : AccountId) (x : Account) : (s.setAccount i x).water = s.water := rfl
@[simp] theorem setAccount_fuel (i : AccountId) (x : Account) : (s.setAccount i x).fuel = s.fuel := rfl
@[simp] theorem setAccount_access (i : AccountId) (x : Account) : (s.setAccount i x).access = s.access := rfl
@[simp] theorem setAccount_lines (i : AccountId) (x : Account) : (s.setAccount i x).lines = s.lines := rfl
@[simp] theorem setAccount_ledger_holds (i : AccountId) (x : Account) : (s.setAccount i x).ledger.holds = s.ledger.holds := rfl
@[simp] theorem setAccount_ledger_tariff (i : AccountId) (x : Account) : (s.setAccount i x).ledger.tariff = s.ledger.tariff := rfl
@[simp] theorem setAccount_ledger_rolloverDay (i : AccountId) (x : Account) : (s.setAccount i x).ledger.rolloverDay = s.ledger.rolloverDay := rfl
@[simp] theorem setAccount_ledger_pass (i : AccountId) (x : Account) : (s.setAccount i x).ledger.pass = s.ledger.pass := rfl
@[simp] theorem setAccount_ledger_accounts (i : AccountId) (x : Account) : (s.setAccount i x).ledger.accounts = s.ledger.accounts.set i x := rfl
@[simp] theorem setAccount_get_stay (i : AccountId) (x : Account) (j : StayId) : (s.setAccount i x).stay j = s.stay j := rfl
@[simp] theorem setAccount_get_berth (i : AccountId) (x : Account) (j : BerthId) : (s.setAccount i x).berth j = s.berth j := rfl
@[simp] theorem setAccount_get_pontoon (i : AccountId) (x : Account) (j : PontoonId) : (s.setAccount i x).pontoon j = s.pontoon j := rfl
@[simp] theorem setAccount_get_holdSlot (i : AccountId) (x : Account) (j : HoldSlot) : (s.setAccount i x).holdSlot j = s.holdSlot j := rfl
@[simp] theorem setAccount_get_branch (i : AccountId) (x : Account) (j : BranchId) : (s.setAccount i x).branch j = s.branch j := rfl
@[simp] theorem setAccount_get_station (i : AccountId) (x : Account) (j : StationId) : (s.setAccount i x).station j = s.station j := rfl
@[simp] theorem setAccount_get_outlet (i : AccountId) (x : Account) (j : OutletId) : (s.setAccount i x).outlet j = s.outlet j := rfl
@[simp] theorem setAccount_get_feeder (i : AccountId) (x : Account) (j : PontoonId) : (s.setAccount i x).feeder j = s.feeder j := rfl
@[simp] theorem setAccount_get_start (i : AccountId) (x : Account) (j : PontoonId) : (s.setAccount i x).start j = s.start j := rfl
@[simp] theorem setAccount_get_tap (i : AccountId) (x : Account) (j : TapId) : (s.setAccount i x).tap j = s.tap j := rfl
@[simp] theorem setAccount_get_tank (i : AccountId) (x : Account) (j : GradeId) : (s.setAccount i x).tank j = s.tank j := rfl
@[simp] theorem setAccount_get_dispenser (i : AccountId) (x : Account) (j : DispenserId) : (s.setAccount i x).dispenser j = s.dispenser j := rfl
@[simp] theorem setAccount_get_gate (i : AccountId) (x : Account) (j : PontoonId) : (s.setAccount i x).gate j = s.gate j := rfl
@[simp] theorem setAccount_get_credential (i : AccountId) (x : Account) (j : CredentialSlot) : (s.setAccount i x).credential j = s.credential j := rfl
@[simp] theorem setAccount_get_signal (i : AccountId) (x : Account) (j : Fin 2) : (s.setAccount i x).signal j = s.signal j := rfl
@[simp] theorem setAccount_get_now (i : AccountId) (x : Account) : (s.setAccount i x).now = s.now := rfl
@[simp] theorem setAccount_get_stamp (i : AccountId) (x : Account) : (s.setAccount i x).stamp = s.stamp := rfl
@[simp] theorem setAccount_get_arrivals (i : AccountId) (x : Account) : (s.setAccount i x).arrivals = s.arrivals := rfl

/-! ### setHoldSlot -/

@[simp] theorem setHoldSlot_holdSlot (i : HoldSlot) (x : Option HoldRecord) : (s.setHoldSlot i x).holdSlot i = x := by
  simp [State.holdSlot, State.setHoldSlot]
theorem setHoldSlot_holdSlot_if (i j : HoldSlot) (x : Option HoldRecord) : (s.setHoldSlot i x).holdSlot j = if i = j then x else s.holdSlot j := by
  by_cases h : i = j
  · subst h; simp
  · have h' : i.val ≠ j.val := fun e => h (Fin.ext e)
    simp [State.holdSlot, State.setHoldSlot, h, h']
theorem setHoldSlot_holdSlot_ne {i j : HoldSlot} (x : Option HoldRecord) (h : i ≠ j) : (s.setHoldSlot i x).holdSlot j = s.holdSlot j := by
  simp [setHoldSlot_holdSlot_if, h]
@[simp] theorem setHoldSlot_pending (i : HoldSlot) (x : Option HoldRecord) : (s.setHoldSlot i x).pending = s.pending := rfl
@[simp] theorem setHoldSlot_part (i : HoldSlot) (x : Option HoldRecord) : (s.setHoldSlot i x).part = s.part := rfl
@[simp] theorem setHoldSlot_trunk (i : HoldSlot) (x : Option HoldRecord) : (s.setHoldSlot i x).trunk = s.trunk := rfl
@[simp] theorem setHoldSlot_settings (i : HoldSlot) (x : Option HoldRecord) : (s.setHoldSlot i x).settings = s.settings := rfl
@[simp] theorem setHoldSlot_clock (i : HoldSlot) (x : Option HoldRecord) : (s.setHoldSlot i x).clock = s.clock := rfl
@[simp] theorem setHoldSlot_register (i : HoldSlot) (x : Option HoldRecord) : (s.setHoldSlot i x).register = s.register := rfl
@[simp] theorem setHoldSlot_engine (i : HoldSlot) (x : Option HoldRecord) : (s.setHoldSlot i x).engine = s.engine := rfl
@[simp] theorem setHoldSlot_link (i : HoldSlot) (x : Option HoldRecord) : (s.setHoldSlot i x).link = s.link := rfl
@[simp] theorem setHoldSlot_power (i : HoldSlot) (x : Option HoldRecord) : (s.setHoldSlot i x).power = s.power := rfl
@[simp] theorem setHoldSlot_water (i : HoldSlot) (x : Option HoldRecord) : (s.setHoldSlot i x).water = s.water := rfl
@[simp] theorem setHoldSlot_fuel (i : HoldSlot) (x : Option HoldRecord) : (s.setHoldSlot i x).fuel = s.fuel := rfl
@[simp] theorem setHoldSlot_access (i : HoldSlot) (x : Option HoldRecord) : (s.setHoldSlot i x).access = s.access := rfl
@[simp] theorem setHoldSlot_lines (i : HoldSlot) (x : Option HoldRecord) : (s.setHoldSlot i x).lines = s.lines := rfl
@[simp] theorem setHoldSlot_ledger_accounts (i : HoldSlot) (x : Option HoldRecord) : (s.setHoldSlot i x).ledger.accounts = s.ledger.accounts := rfl
@[simp] theorem setHoldSlot_ledger_tariff (i : HoldSlot) (x : Option HoldRecord) : (s.setHoldSlot i x).ledger.tariff = s.ledger.tariff := rfl
@[simp] theorem setHoldSlot_ledger_rolloverDay (i : HoldSlot) (x : Option HoldRecord) : (s.setHoldSlot i x).ledger.rolloverDay = s.ledger.rolloverDay := rfl
@[simp] theorem setHoldSlot_ledger_pass (i : HoldSlot) (x : Option HoldRecord) : (s.setHoldSlot i x).ledger.pass = s.ledger.pass := rfl
@[simp] theorem setHoldSlot_ledger_holds (i : HoldSlot) (x : Option HoldRecord) : (s.setHoldSlot i x).ledger.holds = s.ledger.holds.set i x := rfl
@[simp] theorem setHoldSlot_get_stay (i : HoldSlot) (x : Option HoldRecord) (j : StayId) : (s.setHoldSlot i x).stay j = s.stay j := rfl
@[simp] theorem setHoldSlot_get_berth (i : HoldSlot) (x : Option HoldRecord) (j : BerthId) : (s.setHoldSlot i x).berth j = s.berth j := rfl
@[simp] theorem setHoldSlot_get_pontoon (i : HoldSlot) (x : Option HoldRecord) (j : PontoonId) : (s.setHoldSlot i x).pontoon j = s.pontoon j := rfl
@[simp] theorem setHoldSlot_get_account (i : HoldSlot) (x : Option HoldRecord) (j : AccountId) : (s.setHoldSlot i x).account j = s.account j := rfl
@[simp] theorem setHoldSlot_get_branch (i : HoldSlot) (x : Option HoldRecord) (j : BranchId) : (s.setHoldSlot i x).branch j = s.branch j := rfl
@[simp] theorem setHoldSlot_get_station (i : HoldSlot) (x : Option HoldRecord) (j : StationId) : (s.setHoldSlot i x).station j = s.station j := rfl
@[simp] theorem setHoldSlot_get_outlet (i : HoldSlot) (x : Option HoldRecord) (j : OutletId) : (s.setHoldSlot i x).outlet j = s.outlet j := rfl
@[simp] theorem setHoldSlot_get_feeder (i : HoldSlot) (x : Option HoldRecord) (j : PontoonId) : (s.setHoldSlot i x).feeder j = s.feeder j := rfl
@[simp] theorem setHoldSlot_get_start (i : HoldSlot) (x : Option HoldRecord) (j : PontoonId) : (s.setHoldSlot i x).start j = s.start j := rfl
@[simp] theorem setHoldSlot_get_tap (i : HoldSlot) (x : Option HoldRecord) (j : TapId) : (s.setHoldSlot i x).tap j = s.tap j := rfl
@[simp] theorem setHoldSlot_get_tank (i : HoldSlot) (x : Option HoldRecord) (j : GradeId) : (s.setHoldSlot i x).tank j = s.tank j := rfl
@[simp] theorem setHoldSlot_get_dispenser (i : HoldSlot) (x : Option HoldRecord) (j : DispenserId) : (s.setHoldSlot i x).dispenser j = s.dispenser j := rfl
@[simp] theorem setHoldSlot_get_gate (i : HoldSlot) (x : Option HoldRecord) (j : PontoonId) : (s.setHoldSlot i x).gate j = s.gate j := rfl
@[simp] theorem setHoldSlot_get_credential (i : HoldSlot) (x : Option HoldRecord) (j : CredentialSlot) : (s.setHoldSlot i x).credential j = s.credential j := rfl
@[simp] theorem setHoldSlot_get_signal (i : HoldSlot) (x : Option HoldRecord) (j : Fin 2) : (s.setHoldSlot i x).signal j = s.signal j := rfl
@[simp] theorem setHoldSlot_get_now (i : HoldSlot) (x : Option HoldRecord) : (s.setHoldSlot i x).now = s.now := rfl
@[simp] theorem setHoldSlot_get_stamp (i : HoldSlot) (x : Option HoldRecord) : (s.setHoldSlot i x).stamp = s.stamp := rfl
@[simp] theorem setHoldSlot_get_arrivals (i : HoldSlot) (x : Option HoldRecord) : (s.setHoldSlot i x).arrivals = s.arrivals := rfl

/-! ### setBranch -/

@[simp] theorem setBranch_branch (i : BranchId) (x : Branch) : (s.setBranch i x).branch i = x := by
  simp [State.branch, State.setBranch]
theorem setBranch_branch_if (i j : BranchId) (x : Branch) : (s.setBranch i x).branch j = if i = j then x else s.branch j := by
  by_cases h : i = j
  · subst h; simp
  · have h' : i.val ≠ j.val := fun e => h (Fin.ext e)
    simp [State.branch, State.setBranch, h, h']
theorem setBranch_branch_ne {i j : BranchId} (x : Branch) (h : i ≠ j) : (s.setBranch i x).branch j = s.branch j := by
  simp [setBranch_branch_if, h]
@[simp] theorem setBranch_pending (i : BranchId) (x : Branch) : (s.setBranch i x).pending = s.pending := rfl
@[simp] theorem setBranch_part (i : BranchId) (x : Branch) : (s.setBranch i x).part = s.part := rfl
@[simp] theorem setBranch_trunk (i : BranchId) (x : Branch) : (s.setBranch i x).trunk = s.trunk := rfl
@[simp] theorem setBranch_settings (i : BranchId) (x : Branch) : (s.setBranch i x).settings = s.settings := rfl
@[simp] theorem setBranch_clock (i : BranchId) (x : Branch) : (s.setBranch i x).clock = s.clock := rfl
@[simp] theorem setBranch_register (i : BranchId) (x : Branch) : (s.setBranch i x).register = s.register := rfl
@[simp] theorem setBranch_engine (i : BranchId) (x : Branch) : (s.setBranch i x).engine = s.engine := rfl
@[simp] theorem setBranch_ledger (i : BranchId) (x : Branch) : (s.setBranch i x).ledger = s.ledger := rfl
@[simp] theorem setBranch_power (i : BranchId) (x : Branch) : (s.setBranch i x).power = s.power := rfl
@[simp] theorem setBranch_water (i : BranchId) (x : Branch) : (s.setBranch i x).water = s.water := rfl
@[simp] theorem setBranch_fuel (i : BranchId) (x : Branch) : (s.setBranch i x).fuel = s.fuel := rfl
@[simp] theorem setBranch_access (i : BranchId) (x : Branch) : (s.setBranch i x).access = s.access := rfl
@[simp] theorem setBranch_lines (i : BranchId) (x : Branch) : (s.setBranch i x).lines = s.lines := rfl
@[simp] theorem setBranch_link_stations (i : BranchId) (x : Branch) : (s.setBranch i x).link.stations = s.link.stations := rfl
@[simp] theorem setBranch_link_filter (i : BranchId) (x : Branch) : (s.setBranch i x).link.filter = s.link.filter := rfl
@[simp] theorem setBranch_link_waterShown (i : BranchId) (x : Branch) : (s.setBranch i x).link.waterShown = s.link.waterShown := rfl
@[simp] theorem setBranch_link_branches (i : BranchId) (x : Branch) : (s.setBranch i x).link.branches = s.link.branches.set i x := rfl
@[simp] theorem setBranch_get_stay (i : BranchId) (x : Branch) (j : StayId) : (s.setBranch i x).stay j = s.stay j := rfl
@[simp] theorem setBranch_get_berth (i : BranchId) (x : Branch) (j : BerthId) : (s.setBranch i x).berth j = s.berth j := rfl
@[simp] theorem setBranch_get_pontoon (i : BranchId) (x : Branch) (j : PontoonId) : (s.setBranch i x).pontoon j = s.pontoon j := rfl
@[simp] theorem setBranch_get_account (i : BranchId) (x : Branch) (j : AccountId) : (s.setBranch i x).account j = s.account j := rfl
@[simp] theorem setBranch_get_holdSlot (i : BranchId) (x : Branch) (j : HoldSlot) : (s.setBranch i x).holdSlot j = s.holdSlot j := rfl
@[simp] theorem setBranch_get_station (i : BranchId) (x : Branch) (j : StationId) : (s.setBranch i x).station j = s.station j := rfl
@[simp] theorem setBranch_get_outlet (i : BranchId) (x : Branch) (j : OutletId) : (s.setBranch i x).outlet j = s.outlet j := rfl
@[simp] theorem setBranch_get_feeder (i : BranchId) (x : Branch) (j : PontoonId) : (s.setBranch i x).feeder j = s.feeder j := rfl
@[simp] theorem setBranch_get_start (i : BranchId) (x : Branch) (j : PontoonId) : (s.setBranch i x).start j = s.start j := rfl
@[simp] theorem setBranch_get_tap (i : BranchId) (x : Branch) (j : TapId) : (s.setBranch i x).tap j = s.tap j := rfl
@[simp] theorem setBranch_get_tank (i : BranchId) (x : Branch) (j : GradeId) : (s.setBranch i x).tank j = s.tank j := rfl
@[simp] theorem setBranch_get_dispenser (i : BranchId) (x : Branch) (j : DispenserId) : (s.setBranch i x).dispenser j = s.dispenser j := rfl
@[simp] theorem setBranch_get_gate (i : BranchId) (x : Branch) (j : PontoonId) : (s.setBranch i x).gate j = s.gate j := rfl
@[simp] theorem setBranch_get_credential (i : BranchId) (x : Branch) (j : CredentialSlot) : (s.setBranch i x).credential j = s.credential j := rfl
@[simp] theorem setBranch_get_signal (i : BranchId) (x : Branch) (j : Fin 2) : (s.setBranch i x).signal j = s.signal j := rfl
@[simp] theorem setBranch_get_now (i : BranchId) (x : Branch) : (s.setBranch i x).now = s.now := rfl
@[simp] theorem setBranch_get_stamp (i : BranchId) (x : Branch) : (s.setBranch i x).stamp = s.stamp := rfl
@[simp] theorem setBranch_get_arrivals (i : BranchId) (x : Branch) : (s.setBranch i x).arrivals = s.arrivals := rfl

/-! ### setStation -/

@[simp] theorem setStation_station (i : StationId) (x : Station) : (s.setStation i x).station i = x := by
  simp [State.station, State.setStation]
theorem setStation_station_if (i j : StationId) (x : Station) : (s.setStation i x).station j = if i = j then x else s.station j := by
  by_cases h : i = j
  · subst h; simp
  · have h' : i.val ≠ j.val := fun e => h (Fin.ext e)
    simp [State.station, State.setStation, h, h']
theorem setStation_station_ne {i j : StationId} (x : Station) (h : i ≠ j) : (s.setStation i x).station j = s.station j := by
  simp [setStation_station_if, h]
@[simp] theorem setStation_pending (i : StationId) (x : Station) : (s.setStation i x).pending = s.pending := rfl
@[simp] theorem setStation_part (i : StationId) (x : Station) : (s.setStation i x).part = s.part := rfl
@[simp] theorem setStation_trunk (i : StationId) (x : Station) : (s.setStation i x).trunk = s.trunk := rfl
@[simp] theorem setStation_settings (i : StationId) (x : Station) : (s.setStation i x).settings = s.settings := rfl
@[simp] theorem setStation_clock (i : StationId) (x : Station) : (s.setStation i x).clock = s.clock := rfl
@[simp] theorem setStation_register (i : StationId) (x : Station) : (s.setStation i x).register = s.register := rfl
@[simp] theorem setStation_engine (i : StationId) (x : Station) : (s.setStation i x).engine = s.engine := rfl
@[simp] theorem setStation_ledger (i : StationId) (x : Station) : (s.setStation i x).ledger = s.ledger := rfl
@[simp] theorem setStation_power (i : StationId) (x : Station) : (s.setStation i x).power = s.power := rfl
@[simp] theorem setStation_water (i : StationId) (x : Station) : (s.setStation i x).water = s.water := rfl
@[simp] theorem setStation_fuel (i : StationId) (x : Station) : (s.setStation i x).fuel = s.fuel := rfl
@[simp] theorem setStation_access (i : StationId) (x : Station) : (s.setStation i x).access = s.access := rfl
@[simp] theorem setStation_lines (i : StationId) (x : Station) : (s.setStation i x).lines = s.lines := rfl
@[simp] theorem setStation_link_branches (i : StationId) (x : Station) : (s.setStation i x).link.branches = s.link.branches := rfl
@[simp] theorem setStation_link_filter (i : StationId) (x : Station) : (s.setStation i x).link.filter = s.link.filter := rfl
@[simp] theorem setStation_link_waterShown (i : StationId) (x : Station) : (s.setStation i x).link.waterShown = s.link.waterShown := rfl
@[simp] theorem setStation_link_stations (i : StationId) (x : Station) : (s.setStation i x).link.stations = s.link.stations.set i x := rfl
@[simp] theorem setStation_get_stay (i : StationId) (x : Station) (j : StayId) : (s.setStation i x).stay j = s.stay j := rfl
@[simp] theorem setStation_get_berth (i : StationId) (x : Station) (j : BerthId) : (s.setStation i x).berth j = s.berth j := rfl
@[simp] theorem setStation_get_pontoon (i : StationId) (x : Station) (j : PontoonId) : (s.setStation i x).pontoon j = s.pontoon j := rfl
@[simp] theorem setStation_get_account (i : StationId) (x : Station) (j : AccountId) : (s.setStation i x).account j = s.account j := rfl
@[simp] theorem setStation_get_holdSlot (i : StationId) (x : Station) (j : HoldSlot) : (s.setStation i x).holdSlot j = s.holdSlot j := rfl
@[simp] theorem setStation_get_branch (i : StationId) (x : Station) (j : BranchId) : (s.setStation i x).branch j = s.branch j := rfl
@[simp] theorem setStation_get_outlet (i : StationId) (x : Station) (j : OutletId) : (s.setStation i x).outlet j = s.outlet j := rfl
@[simp] theorem setStation_get_feeder (i : StationId) (x : Station) (j : PontoonId) : (s.setStation i x).feeder j = s.feeder j := rfl
@[simp] theorem setStation_get_start (i : StationId) (x : Station) (j : PontoonId) : (s.setStation i x).start j = s.start j := rfl
@[simp] theorem setStation_get_tap (i : StationId) (x : Station) (j : TapId) : (s.setStation i x).tap j = s.tap j := rfl
@[simp] theorem setStation_get_tank (i : StationId) (x : Station) (j : GradeId) : (s.setStation i x).tank j = s.tank j := rfl
@[simp] theorem setStation_get_dispenser (i : StationId) (x : Station) (j : DispenserId) : (s.setStation i x).dispenser j = s.dispenser j := rfl
@[simp] theorem setStation_get_gate (i : StationId) (x : Station) (j : PontoonId) : (s.setStation i x).gate j = s.gate j := rfl
@[simp] theorem setStation_get_credential (i : StationId) (x : Station) (j : CredentialSlot) : (s.setStation i x).credential j = s.credential j := rfl
@[simp] theorem setStation_get_signal (i : StationId) (x : Station) (j : Fin 2) : (s.setStation i x).signal j = s.signal j := rfl
@[simp] theorem setStation_get_now (i : StationId) (x : Station) : (s.setStation i x).now = s.now := rfl
@[simp] theorem setStation_get_stamp (i : StationId) (x : Station) : (s.setStation i x).stamp = s.stamp := rfl
@[simp] theorem setStation_get_arrivals (i : StationId) (x : Station) : (s.setStation i x).arrivals = s.arrivals := rfl

/-! ### setOutlet -/

@[simp] theorem setOutlet_outlet (i : OutletId) (x : Outlet) : (s.setOutlet i x).outlet i = x := by
  simp [State.outlet, State.setOutlet]
theorem setOutlet_outlet_if (i j : OutletId) (x : Outlet) : (s.setOutlet i x).outlet j = if i = j then x else s.outlet j := by
  by_cases h : i = j
  · subst h; simp
  · have h' : i.val ≠ j.val := fun e => h (Fin.ext e)
    simp [State.outlet, State.setOutlet, h, h']
theorem setOutlet_outlet_ne {i j : OutletId} (x : Outlet) (h : i ≠ j) : (s.setOutlet i x).outlet j = s.outlet j := by
  simp [setOutlet_outlet_if, h]
@[simp] theorem setOutlet_pending (i : OutletId) (x : Outlet) : (s.setOutlet i x).pending = s.pending := rfl
@[simp] theorem setOutlet_part (i : OutletId) (x : Outlet) : (s.setOutlet i x).part = s.part := rfl
@[simp] theorem setOutlet_trunk (i : OutletId) (x : Outlet) : (s.setOutlet i x).trunk = s.trunk := rfl
@[simp] theorem setOutlet_settings (i : OutletId) (x : Outlet) : (s.setOutlet i x).settings = s.settings := rfl
@[simp] theorem setOutlet_clock (i : OutletId) (x : Outlet) : (s.setOutlet i x).clock = s.clock := rfl
@[simp] theorem setOutlet_register (i : OutletId) (x : Outlet) : (s.setOutlet i x).register = s.register := rfl
@[simp] theorem setOutlet_engine (i : OutletId) (x : Outlet) : (s.setOutlet i x).engine = s.engine := rfl
@[simp] theorem setOutlet_ledger (i : OutletId) (x : Outlet) : (s.setOutlet i x).ledger = s.ledger := rfl
@[simp] theorem setOutlet_link (i : OutletId) (x : Outlet) : (s.setOutlet i x).link = s.link := rfl
@[simp] theorem setOutlet_water (i : OutletId) (x : Outlet) : (s.setOutlet i x).water = s.water := rfl
@[simp] theorem setOutlet_fuel (i : OutletId) (x : Outlet) : (s.setOutlet i x).fuel = s.fuel := rfl
@[simp] theorem setOutlet_access (i : OutletId) (x : Outlet) : (s.setOutlet i x).access = s.access := rfl
@[simp] theorem setOutlet_lines (i : OutletId) (x : Outlet) : (s.setOutlet i x).lines = s.lines := rfl
@[simp] theorem setOutlet_power_feeders (i : OutletId) (x : Outlet) : (s.setOutlet i x).power.feeders = s.power.feeders := rfl
@[simp] theorem setOutlet_power_starts (i : OutletId) (x : Outlet) : (s.setOutlet i x).power.starts = s.power.starts := rfl
@[simp] theorem setOutlet_power_programs (i : OutletId) (x : Outlet) : (s.setOutlet i x).power.programs = s.power.programs := rfl
@[simp] theorem setOutlet_power_outlets (i : OutletId) (x : Outlet) : (s.setOutlet i x).power.outlets = s.power.outlets.set i x := rfl
@[simp] theorem setOutlet_get_stay (i : OutletId) (x : Outlet) (j : StayId) : (s.setOutlet i x).stay j = s.stay j := rfl
@[simp] theorem setOutlet_get_berth (i : OutletId) (x : Outlet) (j : BerthId) : (s.setOutlet i x).berth j = s.berth j := rfl
@[simp] theorem setOutlet_get_pontoon (i : OutletId) (x : Outlet) (j : PontoonId) : (s.setOutlet i x).pontoon j = s.pontoon j := rfl
@[simp] theorem setOutlet_get_account (i : OutletId) (x : Outlet) (j : AccountId) : (s.setOutlet i x).account j = s.account j := rfl
@[simp] theorem setOutlet_get_holdSlot (i : OutletId) (x : Outlet) (j : HoldSlot) : (s.setOutlet i x).holdSlot j = s.holdSlot j := rfl
@[simp] theorem setOutlet_get_branch (i : OutletId) (x : Outlet) (j : BranchId) : (s.setOutlet i x).branch j = s.branch j := rfl
@[simp] theorem setOutlet_get_station (i : OutletId) (x : Outlet) (j : StationId) : (s.setOutlet i x).station j = s.station j := rfl
@[simp] theorem setOutlet_get_feeder (i : OutletId) (x : Outlet) (j : PontoonId) : (s.setOutlet i x).feeder j = s.feeder j := rfl
@[simp] theorem setOutlet_get_start (i : OutletId) (x : Outlet) (j : PontoonId) : (s.setOutlet i x).start j = s.start j := rfl
@[simp] theorem setOutlet_get_tap (i : OutletId) (x : Outlet) (j : TapId) : (s.setOutlet i x).tap j = s.tap j := rfl
@[simp] theorem setOutlet_get_tank (i : OutletId) (x : Outlet) (j : GradeId) : (s.setOutlet i x).tank j = s.tank j := rfl
@[simp] theorem setOutlet_get_dispenser (i : OutletId) (x : Outlet) (j : DispenserId) : (s.setOutlet i x).dispenser j = s.dispenser j := rfl
@[simp] theorem setOutlet_get_gate (i : OutletId) (x : Outlet) (j : PontoonId) : (s.setOutlet i x).gate j = s.gate j := rfl
@[simp] theorem setOutlet_get_credential (i : OutletId) (x : Outlet) (j : CredentialSlot) : (s.setOutlet i x).credential j = s.credential j := rfl
@[simp] theorem setOutlet_get_signal (i : OutletId) (x : Outlet) (j : Fin 2) : (s.setOutlet i x).signal j = s.signal j := rfl
@[simp] theorem setOutlet_get_now (i : OutletId) (x : Outlet) : (s.setOutlet i x).now = s.now := rfl
@[simp] theorem setOutlet_get_stamp (i : OutletId) (x : Outlet) : (s.setOutlet i x).stamp = s.stamp := rfl
@[simp] theorem setOutlet_get_arrivals (i : OutletId) (x : Outlet) : (s.setOutlet i x).arrivals = s.arrivals := rfl

/-! ### setFeeder -/

@[simp] theorem setFeeder_feeder (i : PontoonId) (x : Feeder) : (s.setFeeder i x).feeder i = x := by
  simp [State.feeder, State.setFeeder]
theorem setFeeder_feeder_if (i j : PontoonId) (x : Feeder) : (s.setFeeder i x).feeder j = if i = j then x else s.feeder j := by
  by_cases h : i = j
  · subst h; simp
  · have h' : i.val ≠ j.val := fun e => h (Fin.ext e)
    simp [State.feeder, State.setFeeder, h, h']
theorem setFeeder_feeder_ne {i j : PontoonId} (x : Feeder) (h : i ≠ j) : (s.setFeeder i x).feeder j = s.feeder j := by
  simp [setFeeder_feeder_if, h]
@[simp] theorem setFeeder_pending (i : PontoonId) (x : Feeder) : (s.setFeeder i x).pending = s.pending := rfl
@[simp] theorem setFeeder_part (i : PontoonId) (x : Feeder) : (s.setFeeder i x).part = s.part := rfl
@[simp] theorem setFeeder_trunk (i : PontoonId) (x : Feeder) : (s.setFeeder i x).trunk = s.trunk := rfl
@[simp] theorem setFeeder_settings (i : PontoonId) (x : Feeder) : (s.setFeeder i x).settings = s.settings := rfl
@[simp] theorem setFeeder_clock (i : PontoonId) (x : Feeder) : (s.setFeeder i x).clock = s.clock := rfl
@[simp] theorem setFeeder_register (i : PontoonId) (x : Feeder) : (s.setFeeder i x).register = s.register := rfl
@[simp] theorem setFeeder_engine (i : PontoonId) (x : Feeder) : (s.setFeeder i x).engine = s.engine := rfl
@[simp] theorem setFeeder_ledger (i : PontoonId) (x : Feeder) : (s.setFeeder i x).ledger = s.ledger := rfl
@[simp] theorem setFeeder_link (i : PontoonId) (x : Feeder) : (s.setFeeder i x).link = s.link := rfl
@[simp] theorem setFeeder_water (i : PontoonId) (x : Feeder) : (s.setFeeder i x).water = s.water := rfl
@[simp] theorem setFeeder_fuel (i : PontoonId) (x : Feeder) : (s.setFeeder i x).fuel = s.fuel := rfl
@[simp] theorem setFeeder_access (i : PontoonId) (x : Feeder) : (s.setFeeder i x).access = s.access := rfl
@[simp] theorem setFeeder_lines (i : PontoonId) (x : Feeder) : (s.setFeeder i x).lines = s.lines := rfl
@[simp] theorem setFeeder_power_outlets (i : PontoonId) (x : Feeder) : (s.setFeeder i x).power.outlets = s.power.outlets := rfl
@[simp] theorem setFeeder_power_starts (i : PontoonId) (x : Feeder) : (s.setFeeder i x).power.starts = s.power.starts := rfl
@[simp] theorem setFeeder_power_programs (i : PontoonId) (x : Feeder) : (s.setFeeder i x).power.programs = s.power.programs := rfl
@[simp] theorem setFeeder_power_feeders (i : PontoonId) (x : Feeder) : (s.setFeeder i x).power.feeders = s.power.feeders.set i x := rfl
@[simp] theorem setFeeder_get_stay (i : PontoonId) (x : Feeder) (j : StayId) : (s.setFeeder i x).stay j = s.stay j := rfl
@[simp] theorem setFeeder_get_berth (i : PontoonId) (x : Feeder) (j : BerthId) : (s.setFeeder i x).berth j = s.berth j := rfl
@[simp] theorem setFeeder_get_pontoon (i : PontoonId) (x : Feeder) (j : PontoonId) : (s.setFeeder i x).pontoon j = s.pontoon j := rfl
@[simp] theorem setFeeder_get_account (i : PontoonId) (x : Feeder) (j : AccountId) : (s.setFeeder i x).account j = s.account j := rfl
@[simp] theorem setFeeder_get_holdSlot (i : PontoonId) (x : Feeder) (j : HoldSlot) : (s.setFeeder i x).holdSlot j = s.holdSlot j := rfl
@[simp] theorem setFeeder_get_branch (i : PontoonId) (x : Feeder) (j : BranchId) : (s.setFeeder i x).branch j = s.branch j := rfl
@[simp] theorem setFeeder_get_station (i : PontoonId) (x : Feeder) (j : StationId) : (s.setFeeder i x).station j = s.station j := rfl
@[simp] theorem setFeeder_get_outlet (i : PontoonId) (x : Feeder) (j : OutletId) : (s.setFeeder i x).outlet j = s.outlet j := rfl
@[simp] theorem setFeeder_get_start (i : PontoonId) (x : Feeder) (j : PontoonId) : (s.setFeeder i x).start j = s.start j := rfl
@[simp] theorem setFeeder_get_tap (i : PontoonId) (x : Feeder) (j : TapId) : (s.setFeeder i x).tap j = s.tap j := rfl
@[simp] theorem setFeeder_get_tank (i : PontoonId) (x : Feeder) (j : GradeId) : (s.setFeeder i x).tank j = s.tank j := rfl
@[simp] theorem setFeeder_get_dispenser (i : PontoonId) (x : Feeder) (j : DispenserId) : (s.setFeeder i x).dispenser j = s.dispenser j := rfl
@[simp] theorem setFeeder_get_gate (i : PontoonId) (x : Feeder) (j : PontoonId) : (s.setFeeder i x).gate j = s.gate j := rfl
@[simp] theorem setFeeder_get_credential (i : PontoonId) (x : Feeder) (j : CredentialSlot) : (s.setFeeder i x).credential j = s.credential j := rfl
@[simp] theorem setFeeder_get_signal (i : PontoonId) (x : Feeder) (j : Fin 2) : (s.setFeeder i x).signal j = s.signal j := rfl
@[simp] theorem setFeeder_get_now (i : PontoonId) (x : Feeder) : (s.setFeeder i x).now = s.now := rfl
@[simp] theorem setFeeder_get_stamp (i : PontoonId) (x : Feeder) : (s.setFeeder i x).stamp = s.stamp := rfl
@[simp] theorem setFeeder_get_arrivals (i : PontoonId) (x : Feeder) : (s.setFeeder i x).arrivals = s.arrivals := rfl

/-! ### setStart -/

@[simp] theorem setStart_start (i : PontoonId) (x : StartRecord) : (s.setStart i x).start i = x := by
  simp [State.start, State.setStart]
theorem setStart_start_if (i j : PontoonId) (x : StartRecord) : (s.setStart i x).start j = if i = j then x else s.start j := by
  by_cases h : i = j
  · subst h; simp
  · have h' : i.val ≠ j.val := fun e => h (Fin.ext e)
    simp [State.start, State.setStart, h, h']
theorem setStart_start_ne {i j : PontoonId} (x : StartRecord) (h : i ≠ j) : (s.setStart i x).start j = s.start j := by
  simp [setStart_start_if, h]
@[simp] theorem setStart_pending (i : PontoonId) (x : StartRecord) : (s.setStart i x).pending = s.pending := rfl
@[simp] theorem setStart_part (i : PontoonId) (x : StartRecord) : (s.setStart i x).part = s.part := rfl
@[simp] theorem setStart_trunk (i : PontoonId) (x : StartRecord) : (s.setStart i x).trunk = s.trunk := rfl
@[simp] theorem setStart_settings (i : PontoonId) (x : StartRecord) : (s.setStart i x).settings = s.settings := rfl
@[simp] theorem setStart_clock (i : PontoonId) (x : StartRecord) : (s.setStart i x).clock = s.clock := rfl
@[simp] theorem setStart_register (i : PontoonId) (x : StartRecord) : (s.setStart i x).register = s.register := rfl
@[simp] theorem setStart_engine (i : PontoonId) (x : StartRecord) : (s.setStart i x).engine = s.engine := rfl
@[simp] theorem setStart_ledger (i : PontoonId) (x : StartRecord) : (s.setStart i x).ledger = s.ledger := rfl
@[simp] theorem setStart_link (i : PontoonId) (x : StartRecord) : (s.setStart i x).link = s.link := rfl
@[simp] theorem setStart_water (i : PontoonId) (x : StartRecord) : (s.setStart i x).water = s.water := rfl
@[simp] theorem setStart_fuel (i : PontoonId) (x : StartRecord) : (s.setStart i x).fuel = s.fuel := rfl
@[simp] theorem setStart_access (i : PontoonId) (x : StartRecord) : (s.setStart i x).access = s.access := rfl
@[simp] theorem setStart_lines (i : PontoonId) (x : StartRecord) : (s.setStart i x).lines = s.lines := rfl
@[simp] theorem setStart_power_outlets (i : PontoonId) (x : StartRecord) : (s.setStart i x).power.outlets = s.power.outlets := rfl
@[simp] theorem setStart_power_feeders (i : PontoonId) (x : StartRecord) : (s.setStart i x).power.feeders = s.power.feeders := rfl
@[simp] theorem setStart_power_programs (i : PontoonId) (x : StartRecord) : (s.setStart i x).power.programs = s.power.programs := rfl
@[simp] theorem setStart_power_starts (i : PontoonId) (x : StartRecord) : (s.setStart i x).power.starts = s.power.starts.set i x := rfl
@[simp] theorem setStart_get_stay (i : PontoonId) (x : StartRecord) (j : StayId) : (s.setStart i x).stay j = s.stay j := rfl
@[simp] theorem setStart_get_berth (i : PontoonId) (x : StartRecord) (j : BerthId) : (s.setStart i x).berth j = s.berth j := rfl
@[simp] theorem setStart_get_pontoon (i : PontoonId) (x : StartRecord) (j : PontoonId) : (s.setStart i x).pontoon j = s.pontoon j := rfl
@[simp] theorem setStart_get_account (i : PontoonId) (x : StartRecord) (j : AccountId) : (s.setStart i x).account j = s.account j := rfl
@[simp] theorem setStart_get_holdSlot (i : PontoonId) (x : StartRecord) (j : HoldSlot) : (s.setStart i x).holdSlot j = s.holdSlot j := rfl
@[simp] theorem setStart_get_branch (i : PontoonId) (x : StartRecord) (j : BranchId) : (s.setStart i x).branch j = s.branch j := rfl
@[simp] theorem setStart_get_station (i : PontoonId) (x : StartRecord) (j : StationId) : (s.setStart i x).station j = s.station j := rfl
@[simp] theorem setStart_get_outlet (i : PontoonId) (x : StartRecord) (j : OutletId) : (s.setStart i x).outlet j = s.outlet j := rfl
@[simp] theorem setStart_get_feeder (i : PontoonId) (x : StartRecord) (j : PontoonId) : (s.setStart i x).feeder j = s.feeder j := rfl
@[simp] theorem setStart_get_tap (i : PontoonId) (x : StartRecord) (j : TapId) : (s.setStart i x).tap j = s.tap j := rfl
@[simp] theorem setStart_get_tank (i : PontoonId) (x : StartRecord) (j : GradeId) : (s.setStart i x).tank j = s.tank j := rfl
@[simp] theorem setStart_get_dispenser (i : PontoonId) (x : StartRecord) (j : DispenserId) : (s.setStart i x).dispenser j = s.dispenser j := rfl
@[simp] theorem setStart_get_gate (i : PontoonId) (x : StartRecord) (j : PontoonId) : (s.setStart i x).gate j = s.gate j := rfl
@[simp] theorem setStart_get_credential (i : PontoonId) (x : StartRecord) (j : CredentialSlot) : (s.setStart i x).credential j = s.credential j := rfl
@[simp] theorem setStart_get_signal (i : PontoonId) (x : StartRecord) (j : Fin 2) : (s.setStart i x).signal j = s.signal j := rfl
@[simp] theorem setStart_get_now (i : PontoonId) (x : StartRecord) : (s.setStart i x).now = s.now := rfl
@[simp] theorem setStart_get_stamp (i : PontoonId) (x : StartRecord) : (s.setStart i x).stamp = s.stamp := rfl
@[simp] theorem setStart_get_arrivals (i : PontoonId) (x : StartRecord) : (s.setStart i x).arrivals = s.arrivals := rfl

/-! ### setTap -/

@[simp] theorem setTap_tap (i : TapId) (x : Tap) : (s.setTap i x).tap i = x := by
  simp [State.tap, State.setTap]
theorem setTap_tap_if (i j : TapId) (x : Tap) : (s.setTap i x).tap j = if i = j then x else s.tap j := by
  by_cases h : i = j
  · subst h; simp
  · have h' : i.val ≠ j.val := fun e => h (Fin.ext e)
    simp [State.tap, State.setTap, h, h']
theorem setTap_tap_ne {i j : TapId} (x : Tap) (h : i ≠ j) : (s.setTap i x).tap j = s.tap j := by
  simp [setTap_tap_if, h]
@[simp] theorem setTap_pending (i : TapId) (x : Tap) : (s.setTap i x).pending = s.pending := rfl
@[simp] theorem setTap_part (i : TapId) (x : Tap) : (s.setTap i x).part = s.part := rfl
@[simp] theorem setTap_trunk (i : TapId) (x : Tap) : (s.setTap i x).trunk = s.trunk := rfl
@[simp] theorem setTap_settings (i : TapId) (x : Tap) : (s.setTap i x).settings = s.settings := rfl
@[simp] theorem setTap_clock (i : TapId) (x : Tap) : (s.setTap i x).clock = s.clock := rfl
@[simp] theorem setTap_register (i : TapId) (x : Tap) : (s.setTap i x).register = s.register := rfl
@[simp] theorem setTap_engine (i : TapId) (x : Tap) : (s.setTap i x).engine = s.engine := rfl
@[simp] theorem setTap_ledger (i : TapId) (x : Tap) : (s.setTap i x).ledger = s.ledger := rfl
@[simp] theorem setTap_link (i : TapId) (x : Tap) : (s.setTap i x).link = s.link := rfl
@[simp] theorem setTap_power (i : TapId) (x : Tap) : (s.setTap i x).power = s.power := rfl
@[simp] theorem setTap_fuel (i : TapId) (x : Tap) : (s.setTap i x).fuel = s.fuel := rfl
@[simp] theorem setTap_access (i : TapId) (x : Tap) : (s.setTap i x).access = s.access := rfl
@[simp] theorem setTap_lines (i : TapId) (x : Tap) : (s.setTap i x).lines = s.lines := rfl
@[simp] theorem setTap_water_taps (i : TapId) (x : Tap) : (s.setTap i x).water.taps = s.water.taps.set i x := rfl
@[simp] theorem setTap_get_stay (i : TapId) (x : Tap) (j : StayId) : (s.setTap i x).stay j = s.stay j := rfl
@[simp] theorem setTap_get_berth (i : TapId) (x : Tap) (j : BerthId) : (s.setTap i x).berth j = s.berth j := rfl
@[simp] theorem setTap_get_pontoon (i : TapId) (x : Tap) (j : PontoonId) : (s.setTap i x).pontoon j = s.pontoon j := rfl
@[simp] theorem setTap_get_account (i : TapId) (x : Tap) (j : AccountId) : (s.setTap i x).account j = s.account j := rfl
@[simp] theorem setTap_get_holdSlot (i : TapId) (x : Tap) (j : HoldSlot) : (s.setTap i x).holdSlot j = s.holdSlot j := rfl
@[simp] theorem setTap_get_branch (i : TapId) (x : Tap) (j : BranchId) : (s.setTap i x).branch j = s.branch j := rfl
@[simp] theorem setTap_get_station (i : TapId) (x : Tap) (j : StationId) : (s.setTap i x).station j = s.station j := rfl
@[simp] theorem setTap_get_outlet (i : TapId) (x : Tap) (j : OutletId) : (s.setTap i x).outlet j = s.outlet j := rfl
@[simp] theorem setTap_get_feeder (i : TapId) (x : Tap) (j : PontoonId) : (s.setTap i x).feeder j = s.feeder j := rfl
@[simp] theorem setTap_get_start (i : TapId) (x : Tap) (j : PontoonId) : (s.setTap i x).start j = s.start j := rfl
@[simp] theorem setTap_get_tank (i : TapId) (x : Tap) (j : GradeId) : (s.setTap i x).tank j = s.tank j := rfl
@[simp] theorem setTap_get_dispenser (i : TapId) (x : Tap) (j : DispenserId) : (s.setTap i x).dispenser j = s.dispenser j := rfl
@[simp] theorem setTap_get_gate (i : TapId) (x : Tap) (j : PontoonId) : (s.setTap i x).gate j = s.gate j := rfl
@[simp] theorem setTap_get_credential (i : TapId) (x : Tap) (j : CredentialSlot) : (s.setTap i x).credential j = s.credential j := rfl
@[simp] theorem setTap_get_signal (i : TapId) (x : Tap) (j : Fin 2) : (s.setTap i x).signal j = s.signal j := rfl
@[simp] theorem setTap_get_now (i : TapId) (x : Tap) : (s.setTap i x).now = s.now := rfl
@[simp] theorem setTap_get_stamp (i : TapId) (x : Tap) : (s.setTap i x).stamp = s.stamp := rfl
@[simp] theorem setTap_get_arrivals (i : TapId) (x : Tap) : (s.setTap i x).arrivals = s.arrivals := rfl

/-! ### setTank -/

@[simp] theorem setTank_tank (i : GradeId) (x : Tank) : (s.setTank i x).tank i = x := by
  simp [State.tank, State.setTank]
theorem setTank_tank_if (i j : GradeId) (x : Tank) : (s.setTank i x).tank j = if i = j then x else s.tank j := by
  by_cases h : i = j
  · subst h; simp
  · have h' : i.val ≠ j.val := fun e => h (Fin.ext e)
    simp [State.tank, State.setTank, h, h']
theorem setTank_tank_ne {i j : GradeId} (x : Tank) (h : i ≠ j) : (s.setTank i x).tank j = s.tank j := by
  simp [setTank_tank_if, h]
@[simp] theorem setTank_pending (i : GradeId) (x : Tank) : (s.setTank i x).pending = s.pending := rfl
@[simp] theorem setTank_part (i : GradeId) (x : Tank) : (s.setTank i x).part = s.part := rfl
@[simp] theorem setTank_trunk (i : GradeId) (x : Tank) : (s.setTank i x).trunk = s.trunk := rfl
@[simp] theorem setTank_settings (i : GradeId) (x : Tank) : (s.setTank i x).settings = s.settings := rfl
@[simp] theorem setTank_clock (i : GradeId) (x : Tank) : (s.setTank i x).clock = s.clock := rfl
@[simp] theorem setTank_register (i : GradeId) (x : Tank) : (s.setTank i x).register = s.register := rfl
@[simp] theorem setTank_engine (i : GradeId) (x : Tank) : (s.setTank i x).engine = s.engine := rfl
@[simp] theorem setTank_ledger (i : GradeId) (x : Tank) : (s.setTank i x).ledger = s.ledger := rfl
@[simp] theorem setTank_link (i : GradeId) (x : Tank) : (s.setTank i x).link = s.link := rfl
@[simp] theorem setTank_power (i : GradeId) (x : Tank) : (s.setTank i x).power = s.power := rfl
@[simp] theorem setTank_water (i : GradeId) (x : Tank) : (s.setTank i x).water = s.water := rfl
@[simp] theorem setTank_access (i : GradeId) (x : Tank) : (s.setTank i x).access = s.access := rfl
@[simp] theorem setTank_lines (i : GradeId) (x : Tank) : (s.setTank i x).lines = s.lines := rfl
@[simp] theorem setTank_fuel_dispensers (i : GradeId) (x : Tank) : (s.setTank i x).fuel.dispensers = s.fuel.dispensers := rfl
@[simp] theorem setTank_fuel_journal (i : GradeId) (x : Tank) : (s.setTank i x).fuel.journal = s.fuel.journal := rfl
@[simp] theorem setTank_fuel_nextSale (i : GradeId) (x : Tank) : (s.setTank i x).fuel.nextSale = s.fuel.nextSale := rfl
@[simp] theorem setTank_fuel_tanks (i : GradeId) (x : Tank) : (s.setTank i x).fuel.tanks = s.fuel.tanks.set i x := rfl
@[simp] theorem setTank_get_stay (i : GradeId) (x : Tank) (j : StayId) : (s.setTank i x).stay j = s.stay j := rfl
@[simp] theorem setTank_get_berth (i : GradeId) (x : Tank) (j : BerthId) : (s.setTank i x).berth j = s.berth j := rfl
@[simp] theorem setTank_get_pontoon (i : GradeId) (x : Tank) (j : PontoonId) : (s.setTank i x).pontoon j = s.pontoon j := rfl
@[simp] theorem setTank_get_account (i : GradeId) (x : Tank) (j : AccountId) : (s.setTank i x).account j = s.account j := rfl
@[simp] theorem setTank_get_holdSlot (i : GradeId) (x : Tank) (j : HoldSlot) : (s.setTank i x).holdSlot j = s.holdSlot j := rfl
@[simp] theorem setTank_get_branch (i : GradeId) (x : Tank) (j : BranchId) : (s.setTank i x).branch j = s.branch j := rfl
@[simp] theorem setTank_get_station (i : GradeId) (x : Tank) (j : StationId) : (s.setTank i x).station j = s.station j := rfl
@[simp] theorem setTank_get_outlet (i : GradeId) (x : Tank) (j : OutletId) : (s.setTank i x).outlet j = s.outlet j := rfl
@[simp] theorem setTank_get_feeder (i : GradeId) (x : Tank) (j : PontoonId) : (s.setTank i x).feeder j = s.feeder j := rfl
@[simp] theorem setTank_get_start (i : GradeId) (x : Tank) (j : PontoonId) : (s.setTank i x).start j = s.start j := rfl
@[simp] theorem setTank_get_tap (i : GradeId) (x : Tank) (j : TapId) : (s.setTank i x).tap j = s.tap j := rfl
@[simp] theorem setTank_get_dispenser (i : GradeId) (x : Tank) (j : DispenserId) : (s.setTank i x).dispenser j = s.dispenser j := rfl
@[simp] theorem setTank_get_gate (i : GradeId) (x : Tank) (j : PontoonId) : (s.setTank i x).gate j = s.gate j := rfl
@[simp] theorem setTank_get_credential (i : GradeId) (x : Tank) (j : CredentialSlot) : (s.setTank i x).credential j = s.credential j := rfl
@[simp] theorem setTank_get_signal (i : GradeId) (x : Tank) (j : Fin 2) : (s.setTank i x).signal j = s.signal j := rfl
@[simp] theorem setTank_get_now (i : GradeId) (x : Tank) : (s.setTank i x).now = s.now := rfl
@[simp] theorem setTank_get_stamp (i : GradeId) (x : Tank) : (s.setTank i x).stamp = s.stamp := rfl
@[simp] theorem setTank_get_arrivals (i : GradeId) (x : Tank) : (s.setTank i x).arrivals = s.arrivals := rfl

/-! ### setDispenser -/

@[simp] theorem setDispenser_dispenser (i : DispenserId) (x : Dispenser) : (s.setDispenser i x).dispenser i = x := by
  simp [State.dispenser, State.setDispenser]
theorem setDispenser_dispenser_if (i j : DispenserId) (x : Dispenser) : (s.setDispenser i x).dispenser j = if i = j then x else s.dispenser j := by
  by_cases h : i = j
  · subst h; simp
  · have h' : i.val ≠ j.val := fun e => h (Fin.ext e)
    simp [State.dispenser, State.setDispenser, h, h']
theorem setDispenser_dispenser_ne {i j : DispenserId} (x : Dispenser) (h : i ≠ j) : (s.setDispenser i x).dispenser j = s.dispenser j := by
  simp [setDispenser_dispenser_if, h]
@[simp] theorem setDispenser_pending (i : DispenserId) (x : Dispenser) : (s.setDispenser i x).pending = s.pending := rfl
@[simp] theorem setDispenser_part (i : DispenserId) (x : Dispenser) : (s.setDispenser i x).part = s.part := rfl
@[simp] theorem setDispenser_trunk (i : DispenserId) (x : Dispenser) : (s.setDispenser i x).trunk = s.trunk := rfl
@[simp] theorem setDispenser_settings (i : DispenserId) (x : Dispenser) : (s.setDispenser i x).settings = s.settings := rfl
@[simp] theorem setDispenser_clock (i : DispenserId) (x : Dispenser) : (s.setDispenser i x).clock = s.clock := rfl
@[simp] theorem setDispenser_register (i : DispenserId) (x : Dispenser) : (s.setDispenser i x).register = s.register := rfl
@[simp] theorem setDispenser_engine (i : DispenserId) (x : Dispenser) : (s.setDispenser i x).engine = s.engine := rfl
@[simp] theorem setDispenser_ledger (i : DispenserId) (x : Dispenser) : (s.setDispenser i x).ledger = s.ledger := rfl
@[simp] theorem setDispenser_link (i : DispenserId) (x : Dispenser) : (s.setDispenser i x).link = s.link := rfl
@[simp] theorem setDispenser_power (i : DispenserId) (x : Dispenser) : (s.setDispenser i x).power = s.power := rfl
@[simp] theorem setDispenser_water (i : DispenserId) (x : Dispenser) : (s.setDispenser i x).water = s.water := rfl
@[simp] theorem setDispenser_access (i : DispenserId) (x : Dispenser) : (s.setDispenser i x).access = s.access := rfl
@[simp] theorem setDispenser_lines (i : DispenserId) (x : Dispenser) : (s.setDispenser i x).lines = s.lines := rfl
@[simp] theorem setDispenser_fuel_tanks (i : DispenserId) (x : Dispenser) : (s.setDispenser i x).fuel.tanks = s.fuel.tanks := rfl
@[simp] theorem setDispenser_fuel_journal (i : DispenserId) (x : Dispenser) : (s.setDispenser i x).fuel.journal = s.fuel.journal := rfl
@[simp] theorem setDispenser_fuel_nextSale (i : DispenserId) (x : Dispenser) : (s.setDispenser i x).fuel.nextSale = s.fuel.nextSale := rfl
@[simp] theorem setDispenser_fuel_dispensers (i : DispenserId) (x : Dispenser) : (s.setDispenser i x).fuel.dispensers = s.fuel.dispensers.set i x := rfl
@[simp] theorem setDispenser_get_stay (i : DispenserId) (x : Dispenser) (j : StayId) : (s.setDispenser i x).stay j = s.stay j := rfl
@[simp] theorem setDispenser_get_berth (i : DispenserId) (x : Dispenser) (j : BerthId) : (s.setDispenser i x).berth j = s.berth j := rfl
@[simp] theorem setDispenser_get_pontoon (i : DispenserId) (x : Dispenser) (j : PontoonId) : (s.setDispenser i x).pontoon j = s.pontoon j := rfl
@[simp] theorem setDispenser_get_account (i : DispenserId) (x : Dispenser) (j : AccountId) : (s.setDispenser i x).account j = s.account j := rfl
@[simp] theorem setDispenser_get_holdSlot (i : DispenserId) (x : Dispenser) (j : HoldSlot) : (s.setDispenser i x).holdSlot j = s.holdSlot j := rfl
@[simp] theorem setDispenser_get_branch (i : DispenserId) (x : Dispenser) (j : BranchId) : (s.setDispenser i x).branch j = s.branch j := rfl
@[simp] theorem setDispenser_get_station (i : DispenserId) (x : Dispenser) (j : StationId) : (s.setDispenser i x).station j = s.station j := rfl
@[simp] theorem setDispenser_get_outlet (i : DispenserId) (x : Dispenser) (j : OutletId) : (s.setDispenser i x).outlet j = s.outlet j := rfl
@[simp] theorem setDispenser_get_feeder (i : DispenserId) (x : Dispenser) (j : PontoonId) : (s.setDispenser i x).feeder j = s.feeder j := rfl
@[simp] theorem setDispenser_get_start (i : DispenserId) (x : Dispenser) (j : PontoonId) : (s.setDispenser i x).start j = s.start j := rfl
@[simp] theorem setDispenser_get_tap (i : DispenserId) (x : Dispenser) (j : TapId) : (s.setDispenser i x).tap j = s.tap j := rfl
@[simp] theorem setDispenser_get_tank (i : DispenserId) (x : Dispenser) (j : GradeId) : (s.setDispenser i x).tank j = s.tank j := rfl
@[simp] theorem setDispenser_get_gate (i : DispenserId) (x : Dispenser) (j : PontoonId) : (s.setDispenser i x).gate j = s.gate j := rfl
@[simp] theorem setDispenser_get_credential (i : DispenserId) (x : Dispenser) (j : CredentialSlot) : (s.setDispenser i x).credential j = s.credential j := rfl
@[simp] theorem setDispenser_get_signal (i : DispenserId) (x : Dispenser) (j : Fin 2) : (s.setDispenser i x).signal j = s.signal j := rfl
@[simp] theorem setDispenser_get_now (i : DispenserId) (x : Dispenser) : (s.setDispenser i x).now = s.now := rfl
@[simp] theorem setDispenser_get_stamp (i : DispenserId) (x : Dispenser) : (s.setDispenser i x).stamp = s.stamp := rfl
@[simp] theorem setDispenser_get_arrivals (i : DispenserId) (x : Dispenser) : (s.setDispenser i x).arrivals = s.arrivals := rfl

/-! ### setGate -/

@[simp] theorem setGate_gate (i : PontoonId) (x : Gate) : (s.setGate i x).gate i = x := by
  simp [State.gate, State.setGate]
theorem setGate_gate_if (i j : PontoonId) (x : Gate) : (s.setGate i x).gate j = if i = j then x else s.gate j := by
  by_cases h : i = j
  · subst h; simp
  · have h' : i.val ≠ j.val := fun e => h (Fin.ext e)
    simp [State.gate, State.setGate, h, h']
theorem setGate_gate_ne {i j : PontoonId} (x : Gate) (h : i ≠ j) : (s.setGate i x).gate j = s.gate j := by
  simp [setGate_gate_if, h]
@[simp] theorem setGate_pending (i : PontoonId) (x : Gate) : (s.setGate i x).pending = s.pending := rfl
@[simp] theorem setGate_part (i : PontoonId) (x : Gate) : (s.setGate i x).part = s.part := rfl
@[simp] theorem setGate_trunk (i : PontoonId) (x : Gate) : (s.setGate i x).trunk = s.trunk := rfl
@[simp] theorem setGate_settings (i : PontoonId) (x : Gate) : (s.setGate i x).settings = s.settings := rfl
@[simp] theorem setGate_clock (i : PontoonId) (x : Gate) : (s.setGate i x).clock = s.clock := rfl
@[simp] theorem setGate_register (i : PontoonId) (x : Gate) : (s.setGate i x).register = s.register := rfl
@[simp] theorem setGate_engine (i : PontoonId) (x : Gate) : (s.setGate i x).engine = s.engine := rfl
@[simp] theorem setGate_ledger (i : PontoonId) (x : Gate) : (s.setGate i x).ledger = s.ledger := rfl
@[simp] theorem setGate_link (i : PontoonId) (x : Gate) : (s.setGate i x).link = s.link := rfl
@[simp] theorem setGate_power (i : PontoonId) (x : Gate) : (s.setGate i x).power = s.power := rfl
@[simp] theorem setGate_water (i : PontoonId) (x : Gate) : (s.setGate i x).water = s.water := rfl
@[simp] theorem setGate_fuel (i : PontoonId) (x : Gate) : (s.setGate i x).fuel = s.fuel := rfl
@[simp] theorem setGate_lines (i : PontoonId) (x : Gate) : (s.setGate i x).lines = s.lines := rfl
@[simp] theorem setGate_access_credentials (i : PontoonId) (x : Gate) : (s.setGate i x).access.credentials = s.access.credentials := rfl
@[simp] theorem setGate_access_officeRelease (i : PontoonId) (x : Gate) : (s.setGate i x).access.officeRelease = s.access.officeRelease := rfl
@[simp] theorem setGate_access_log (i : PontoonId) (x : Gate) : (s.setGate i x).access.log = s.access.log := rfl
@[simp] theorem setGate_access_nextPosition (i : PontoonId) (x : Gate) : (s.setGate i x).access.nextPosition = s.access.nextPosition := rfl
@[simp] theorem setGate_access_nextSequence (i : PontoonId) (x : Gate) : (s.setGate i x).access.nextSequence = s.access.nextSequence := rfl
@[simp] theorem setGate_access_gates (i : PontoonId) (x : Gate) : (s.setGate i x).access.gates = s.access.gates.set i x := rfl
@[simp] theorem setGate_get_stay (i : PontoonId) (x : Gate) (j : StayId) : (s.setGate i x).stay j = s.stay j := rfl
@[simp] theorem setGate_get_berth (i : PontoonId) (x : Gate) (j : BerthId) : (s.setGate i x).berth j = s.berth j := rfl
@[simp] theorem setGate_get_pontoon (i : PontoonId) (x : Gate) (j : PontoonId) : (s.setGate i x).pontoon j = s.pontoon j := rfl
@[simp] theorem setGate_get_account (i : PontoonId) (x : Gate) (j : AccountId) : (s.setGate i x).account j = s.account j := rfl
@[simp] theorem setGate_get_holdSlot (i : PontoonId) (x : Gate) (j : HoldSlot) : (s.setGate i x).holdSlot j = s.holdSlot j := rfl
@[simp] theorem setGate_get_branch (i : PontoonId) (x : Gate) (j : BranchId) : (s.setGate i x).branch j = s.branch j := rfl
@[simp] theorem setGate_get_station (i : PontoonId) (x : Gate) (j : StationId) : (s.setGate i x).station j = s.station j := rfl
@[simp] theorem setGate_get_outlet (i : PontoonId) (x : Gate) (j : OutletId) : (s.setGate i x).outlet j = s.outlet j := rfl
@[simp] theorem setGate_get_feeder (i : PontoonId) (x : Gate) (j : PontoonId) : (s.setGate i x).feeder j = s.feeder j := rfl
@[simp] theorem setGate_get_start (i : PontoonId) (x : Gate) (j : PontoonId) : (s.setGate i x).start j = s.start j := rfl
@[simp] theorem setGate_get_tap (i : PontoonId) (x : Gate) (j : TapId) : (s.setGate i x).tap j = s.tap j := rfl
@[simp] theorem setGate_get_tank (i : PontoonId) (x : Gate) (j : GradeId) : (s.setGate i x).tank j = s.tank j := rfl
@[simp] theorem setGate_get_dispenser (i : PontoonId) (x : Gate) (j : DispenserId) : (s.setGate i x).dispenser j = s.dispenser j := rfl
@[simp] theorem setGate_get_credential (i : PontoonId) (x : Gate) (j : CredentialSlot) : (s.setGate i x).credential j = s.credential j := rfl
@[simp] theorem setGate_get_signal (i : PontoonId) (x : Gate) (j : Fin 2) : (s.setGate i x).signal j = s.signal j := rfl
@[simp] theorem setGate_get_now (i : PontoonId) (x : Gate) : (s.setGate i x).now = s.now := rfl
@[simp] theorem setGate_get_stamp (i : PontoonId) (x : Gate) : (s.setGate i x).stamp = s.stamp := rfl
@[simp] theorem setGate_get_arrivals (i : PontoonId) (x : Gate) : (s.setGate i x).arrivals = s.arrivals := rfl

/-! ### setCredential -/

@[simp] theorem setCredential_credential (i : CredentialSlot) (x : Option Credential) : (s.setCredential i x).credential i = x := by
  simp [State.credential, State.setCredential]
theorem setCredential_credential_if (i j : CredentialSlot) (x : Option Credential) : (s.setCredential i x).credential j = if i = j then x else s.credential j := by
  by_cases h : i = j
  · subst h; simp
  · have h' : i.val ≠ j.val := fun e => h (Fin.ext e)
    simp [State.credential, State.setCredential, h, h']
theorem setCredential_credential_ne {i j : CredentialSlot} (x : Option Credential) (h : i ≠ j) : (s.setCredential i x).credential j = s.credential j := by
  simp [setCredential_credential_if, h]
@[simp] theorem setCredential_pending (i : CredentialSlot) (x : Option Credential) : (s.setCredential i x).pending = s.pending := rfl
@[simp] theorem setCredential_part (i : CredentialSlot) (x : Option Credential) : (s.setCredential i x).part = s.part := rfl
@[simp] theorem setCredential_trunk (i : CredentialSlot) (x : Option Credential) : (s.setCredential i x).trunk = s.trunk := rfl
@[simp] theorem setCredential_settings (i : CredentialSlot) (x : Option Credential) : (s.setCredential i x).settings = s.settings := rfl
@[simp] theorem setCredential_clock (i : CredentialSlot) (x : Option Credential) : (s.setCredential i x).clock = s.clock := rfl
@[simp] theorem setCredential_register (i : CredentialSlot) (x : Option Credential) : (s.setCredential i x).register = s.register := rfl
@[simp] theorem setCredential_engine (i : CredentialSlot) (x : Option Credential) : (s.setCredential i x).engine = s.engine := rfl
@[simp] theorem setCredential_ledger (i : CredentialSlot) (x : Option Credential) : (s.setCredential i x).ledger = s.ledger := rfl
@[simp] theorem setCredential_link (i : CredentialSlot) (x : Option Credential) : (s.setCredential i x).link = s.link := rfl
@[simp] theorem setCredential_power (i : CredentialSlot) (x : Option Credential) : (s.setCredential i x).power = s.power := rfl
@[simp] theorem setCredential_water (i : CredentialSlot) (x : Option Credential) : (s.setCredential i x).water = s.water := rfl
@[simp] theorem setCredential_fuel (i : CredentialSlot) (x : Option Credential) : (s.setCredential i x).fuel = s.fuel := rfl
@[simp] theorem setCredential_lines (i : CredentialSlot) (x : Option Credential) : (s.setCredential i x).lines = s.lines := rfl
@[simp] theorem setCredential_access_gates (i : CredentialSlot) (x : Option Credential) : (s.setCredential i x).access.gates = s.access.gates := rfl
@[simp] theorem setCredential_access_officeRelease (i : CredentialSlot) (x : Option Credential) : (s.setCredential i x).access.officeRelease = s.access.officeRelease := rfl
@[simp] theorem setCredential_access_log (i : CredentialSlot) (x : Option Credential) : (s.setCredential i x).access.log = s.access.log := rfl
@[simp] theorem setCredential_access_nextPosition (i : CredentialSlot) (x : Option Credential) : (s.setCredential i x).access.nextPosition = s.access.nextPosition := rfl
@[simp] theorem setCredential_access_nextSequence (i : CredentialSlot) (x : Option Credential) : (s.setCredential i x).access.nextSequence = s.access.nextSequence := rfl
@[simp] theorem setCredential_access_credentials (i : CredentialSlot) (x : Option Credential) : (s.setCredential i x).access.credentials = s.access.credentials.set i x := rfl
@[simp] theorem setCredential_get_stay (i : CredentialSlot) (x : Option Credential) (j : StayId) : (s.setCredential i x).stay j = s.stay j := rfl
@[simp] theorem setCredential_get_berth (i : CredentialSlot) (x : Option Credential) (j : BerthId) : (s.setCredential i x).berth j = s.berth j := rfl
@[simp] theorem setCredential_get_pontoon (i : CredentialSlot) (x : Option Credential) (j : PontoonId) : (s.setCredential i x).pontoon j = s.pontoon j := rfl
@[simp] theorem setCredential_get_account (i : CredentialSlot) (x : Option Credential) (j : AccountId) : (s.setCredential i x).account j = s.account j := rfl
@[simp] theorem setCredential_get_holdSlot (i : CredentialSlot) (x : Option Credential) (j : HoldSlot) : (s.setCredential i x).holdSlot j = s.holdSlot j := rfl
@[simp] theorem setCredential_get_branch (i : CredentialSlot) (x : Option Credential) (j : BranchId) : (s.setCredential i x).branch j = s.branch j := rfl
@[simp] theorem setCredential_get_station (i : CredentialSlot) (x : Option Credential) (j : StationId) : (s.setCredential i x).station j = s.station j := rfl
@[simp] theorem setCredential_get_outlet (i : CredentialSlot) (x : Option Credential) (j : OutletId) : (s.setCredential i x).outlet j = s.outlet j := rfl
@[simp] theorem setCredential_get_feeder (i : CredentialSlot) (x : Option Credential) (j : PontoonId) : (s.setCredential i x).feeder j = s.feeder j := rfl
@[simp] theorem setCredential_get_start (i : CredentialSlot) (x : Option Credential) (j : PontoonId) : (s.setCredential i x).start j = s.start j := rfl
@[simp] theorem setCredential_get_tap (i : CredentialSlot) (x : Option Credential) (j : TapId) : (s.setCredential i x).tap j = s.tap j := rfl
@[simp] theorem setCredential_get_tank (i : CredentialSlot) (x : Option Credential) (j : GradeId) : (s.setCredential i x).tank j = s.tank j := rfl
@[simp] theorem setCredential_get_dispenser (i : CredentialSlot) (x : Option Credential) (j : DispenserId) : (s.setCredential i x).dispenser j = s.dispenser j := rfl
@[simp] theorem setCredential_get_gate (i : CredentialSlot) (x : Option Credential) (j : PontoonId) : (s.setCredential i x).gate j = s.gate j := rfl
@[simp] theorem setCredential_get_signal (i : CredentialSlot) (x : Option Credential) (j : Fin 2) : (s.setCredential i x).signal j = s.signal j := rfl
@[simp] theorem setCredential_get_now (i : CredentialSlot) (x : Option Credential) : (s.setCredential i x).now = s.now := rfl
@[simp] theorem setCredential_get_stamp (i : CredentialSlot) (x : Option Credential) : (s.setCredential i x).stamp = s.stamp := rfl
@[simp] theorem setCredential_get_arrivals (i : CredentialSlot) (x : Option Credential) : (s.setCredential i x).arrivals = s.arrivals := rfl

/-! ### setSignal -/

@[simp] theorem setSignal_signal (i : Fin 2) (x : Signal) : (s.setSignal i x).signal i = x := by
  simp [State.signal, State.setSignal]
theorem setSignal_signal_if (i j : Fin 2) (x : Signal) : (s.setSignal i x).signal j = if i = j then x else s.signal j := by
  by_cases h : i = j
  · subst h; simp
  · have h' : i.val ≠ j.val := fun e => h (Fin.ext e)
    simp [State.signal, State.setSignal, h, h']
theorem setSignal_signal_ne {i j : Fin 2} (x : Signal) (h : i ≠ j) : (s.setSignal i x).signal j = s.signal j := by
  simp [setSignal_signal_if, h]
@[simp] theorem setSignal_pending (i : Fin 2) (x : Signal) : (s.setSignal i x).pending = s.pending := rfl
@[simp] theorem setSignal_part (i : Fin 2) (x : Signal) : (s.setSignal i x).part = s.part := rfl
@[simp] theorem setSignal_trunk (i : Fin 2) (x : Signal) : (s.setSignal i x).trunk = s.trunk := rfl
@[simp] theorem setSignal_settings (i : Fin 2) (x : Signal) : (s.setSignal i x).settings = s.settings := rfl
@[simp] theorem setSignal_clock (i : Fin 2) (x : Signal) : (s.setSignal i x).clock = s.clock := rfl
@[simp] theorem setSignal_register (i : Fin 2) (x : Signal) : (s.setSignal i x).register = s.register := rfl
@[simp] theorem setSignal_engine (i : Fin 2) (x : Signal) : (s.setSignal i x).engine = s.engine := rfl
@[simp] theorem setSignal_ledger (i : Fin 2) (x : Signal) : (s.setSignal i x).ledger = s.ledger := rfl
@[simp] theorem setSignal_link (i : Fin 2) (x : Signal) : (s.setSignal i x).link = s.link := rfl
@[simp] theorem setSignal_power (i : Fin 2) (x : Signal) : (s.setSignal i x).power = s.power := rfl
@[simp] theorem setSignal_water (i : Fin 2) (x : Signal) : (s.setSignal i x).water = s.water := rfl
@[simp] theorem setSignal_fuel (i : Fin 2) (x : Signal) : (s.setSignal i x).fuel = s.fuel := rfl
@[simp] theorem setSignal_access (i : Fin 2) (x : Signal) : (s.setSignal i x).access = s.access := rfl
@[simp] theorem setSignal_lines_fire (i : Fin 2) (x : Signal) : (s.setSignal i x).lines.fire = s.lines.fire := rfl
@[simp] theorem setSignal_lines_estop (i : Fin 2) (x : Signal) : (s.setSignal i x).lines.estop = s.lines.estop := rfl
@[simp] theorem setSignal_lines_signals (i : Fin 2) (x : Signal) : (s.setSignal i x).lines.signals = s.lines.signals.set i x := rfl
@[simp] theorem setSignal_get_stay (i : Fin 2) (x : Signal) (j : StayId) : (s.setSignal i x).stay j = s.stay j := rfl
@[simp] theorem setSignal_get_berth (i : Fin 2) (x : Signal) (j : BerthId) : (s.setSignal i x).berth j = s.berth j := rfl
@[simp] theorem setSignal_get_pontoon (i : Fin 2) (x : Signal) (j : PontoonId) : (s.setSignal i x).pontoon j = s.pontoon j := rfl
@[simp] theorem setSignal_get_account (i : Fin 2) (x : Signal) (j : AccountId) : (s.setSignal i x).account j = s.account j := rfl
@[simp] theorem setSignal_get_holdSlot (i : Fin 2) (x : Signal) (j : HoldSlot) : (s.setSignal i x).holdSlot j = s.holdSlot j := rfl
@[simp] theorem setSignal_get_branch (i : Fin 2) (x : Signal) (j : BranchId) : (s.setSignal i x).branch j = s.branch j := rfl
@[simp] theorem setSignal_get_station (i : Fin 2) (x : Signal) (j : StationId) : (s.setSignal i x).station j = s.station j := rfl
@[simp] theorem setSignal_get_outlet (i : Fin 2) (x : Signal) (j : OutletId) : (s.setSignal i x).outlet j = s.outlet j := rfl
@[simp] theorem setSignal_get_feeder (i : Fin 2) (x : Signal) (j : PontoonId) : (s.setSignal i x).feeder j = s.feeder j := rfl
@[simp] theorem setSignal_get_start (i : Fin 2) (x : Signal) (j : PontoonId) : (s.setSignal i x).start j = s.start j := rfl
@[simp] theorem setSignal_get_tap (i : Fin 2) (x : Signal) (j : TapId) : (s.setSignal i x).tap j = s.tap j := rfl
@[simp] theorem setSignal_get_tank (i : Fin 2) (x : Signal) (j : GradeId) : (s.setSignal i x).tank j = s.tank j := rfl
@[simp] theorem setSignal_get_dispenser (i : Fin 2) (x : Signal) (j : DispenserId) : (s.setSignal i x).dispenser j = s.dispenser j := rfl
@[simp] theorem setSignal_get_gate (i : Fin 2) (x : Signal) (j : PontoonId) : (s.setSignal i x).gate j = s.gate j := rfl
@[simp] theorem setSignal_get_credential (i : Fin 2) (x : Signal) (j : CredentialSlot) : (s.setSignal i x).credential j = s.credential j := rfl
@[simp] theorem setSignal_get_now (i : Fin 2) (x : Signal) : (s.setSignal i x).now = s.now := rfl
@[simp] theorem setSignal_get_stamp (i : Fin 2) (x : Signal) : (s.setSignal i x).stamp = s.stamp := rfl
@[simp] theorem setSignal_get_arrivals (i : Fin 2) (x : Signal) : (s.setSignal i x).arrivals = s.arrivals := rfl

/-! ### setArrivals -/

@[simp] theorem setArrivals_pending (l : List StayId) : (s.setArrivals l).pending = s.pending := rfl
@[simp] theorem setArrivals_part (l : List StayId) : (s.setArrivals l).part = s.part := rfl
@[simp] theorem setArrivals_trunk (l : List StayId) : (s.setArrivals l).trunk = s.trunk := rfl
@[simp] theorem setArrivals_settings (l : List StayId) : (s.setArrivals l).settings = s.settings := rfl
@[simp] theorem setArrivals_clock (l : List StayId) : (s.setArrivals l).clock = s.clock := rfl
@[simp] theorem setArrivals_engine (l : List StayId) : (s.setArrivals l).engine = s.engine := rfl
@[simp] theorem setArrivals_ledger (l : List StayId) : (s.setArrivals l).ledger = s.ledger := rfl
@[simp] theorem setArrivals_link (l : List StayId) : (s.setArrivals l).link = s.link := rfl
@[simp] theorem setArrivals_power (l : List StayId) : (s.setArrivals l).power = s.power := rfl
@[simp] theorem setArrivals_water (l : List StayId) : (s.setArrivals l).water = s.water := rfl
@[simp] theorem setArrivals_fuel (l : List StayId) : (s.setArrivals l).fuel = s.fuel := rfl
@[simp] theorem setArrivals_access (l : List StayId) : (s.setArrivals l).access = s.access := rfl
@[simp] theorem setArrivals_lines (l : List StayId) : (s.setArrivals l).lines = s.lines := rfl
@[simp] theorem setArrivals_get_arrivals (l : List StayId) : (s.setArrivals l).arrivals = l := rfl
@[simp] theorem setArrivals_register_pontoons (l : List StayId) : (s.setArrivals l).register.pontoons = s.register.pontoons := rfl
@[simp] theorem setArrivals_register_berths (l : List StayId) : (s.setArrivals l).register.berths = s.register.berths := rfl
@[simp] theorem setArrivals_register_stays (l : List StayId) : (s.setArrivals l).register.stays = s.register.stays := rfl
@[simp] theorem setArrivals_register_arrivals (l : List StayId) : (s.setArrivals l).register.arrivals = l := rfl
@[simp] theorem setArrivals_get_stay (l : List StayId) (j : StayId) : (s.setArrivals l).stay j = s.stay j := rfl
@[simp] theorem setArrivals_get_berth (l : List StayId) (j : BerthId) : (s.setArrivals l).berth j = s.berth j := rfl
@[simp] theorem setArrivals_get_pontoon (l : List StayId) (j : PontoonId) : (s.setArrivals l).pontoon j = s.pontoon j := rfl
@[simp] theorem setArrivals_get_account (l : List StayId) (j : AccountId) : (s.setArrivals l).account j = s.account j := rfl
@[simp] theorem setArrivals_get_holdSlot (l : List StayId) (j : HoldSlot) : (s.setArrivals l).holdSlot j = s.holdSlot j := rfl
@[simp] theorem setArrivals_get_branch (l : List StayId) (j : BranchId) : (s.setArrivals l).branch j = s.branch j := rfl
@[simp] theorem setArrivals_get_station (l : List StayId) (j : StationId) : (s.setArrivals l).station j = s.station j := rfl
@[simp] theorem setArrivals_get_outlet (l : List StayId) (j : OutletId) : (s.setArrivals l).outlet j = s.outlet j := rfl
@[simp] theorem setArrivals_get_feeder (l : List StayId) (j : PontoonId) : (s.setArrivals l).feeder j = s.feeder j := rfl
@[simp] theorem setArrivals_get_start (l : List StayId) (j : PontoonId) : (s.setArrivals l).start j = s.start j := rfl
@[simp] theorem setArrivals_get_tap (l : List StayId) (j : TapId) : (s.setArrivals l).tap j = s.tap j := rfl
@[simp] theorem setArrivals_get_tank (l : List StayId) (j : GradeId) : (s.setArrivals l).tank j = s.tank j := rfl
@[simp] theorem setArrivals_get_dispenser (l : List StayId) (j : DispenserId) : (s.setArrivals l).dispenser j = s.dispenser j := rfl
@[simp] theorem setArrivals_get_gate (l : List StayId) (j : PontoonId) : (s.setArrivals l).gate j = s.gate j := rfl
@[simp] theorem setArrivals_get_credential (l : List StayId) (j : CredentialSlot) : (s.setArrivals l).credential j = s.credential j := rfl
@[simp] theorem setArrivals_get_signal (l : List StayId) (j : Fin 2) : (s.setArrivals l).signal j = s.signal j := rfl
@[simp] theorem setArrivals_get_now (l : List StayId) : (s.setArrivals l).now = s.now := rfl
@[simp] theorem setArrivals_get_stamp (l : List StayId) : (s.setArrivals l).stamp = s.stamp := rfl

/-! ### setEngine -/

@[simp] theorem setEngine_pending (e : Engine) : (s.setEngine e).pending = s.pending := rfl
@[simp] theorem setEngine_part (e : Engine) : (s.setEngine e).part = s.part := rfl
@[simp] theorem setEngine_trunk (e : Engine) : (s.setEngine e).trunk = s.trunk := rfl
@[simp] theorem setEngine_settings (e : Engine) : (s.setEngine e).settings = s.settings := rfl
@[simp] theorem setEngine_clock (e : Engine) : (s.setEngine e).clock = s.clock := rfl
@[simp] theorem setEngine_register (e : Engine) : (s.setEngine e).register = s.register := rfl
@[simp] theorem setEngine_ledger (e : Engine) : (s.setEngine e).ledger = s.ledger := rfl
@[simp] theorem setEngine_link (e : Engine) : (s.setEngine e).link = s.link := rfl
@[simp] theorem setEngine_power (e : Engine) : (s.setEngine e).power = s.power := rfl
@[simp] theorem setEngine_water (e : Engine) : (s.setEngine e).water = s.water := rfl
@[simp] theorem setEngine_fuel (e : Engine) : (s.setEngine e).fuel = s.fuel := rfl
@[simp] theorem setEngine_access (e : Engine) : (s.setEngine e).access = s.access := rfl
@[simp] theorem setEngine_lines (e : Engine) : (s.setEngine e).lines = s.lines := rfl
@[simp] theorem setEngine_engine (e : Engine) : (s.setEngine e).engine = e := rfl
@[simp] theorem setEngine_get_arrivals (e : Engine) : (s.setEngine e).arrivals = s.arrivals := rfl
@[simp] theorem setEngine_get_stay (e : Engine) (j : StayId) : (s.setEngine e).stay j = s.stay j := rfl
@[simp] theorem setEngine_get_berth (e : Engine) (j : BerthId) : (s.setEngine e).berth j = s.berth j := rfl
@[simp] theorem setEngine_get_pontoon (e : Engine) (j : PontoonId) : (s.setEngine e).pontoon j = s.pontoon j := rfl
@[simp] theorem setEngine_get_account (e : Engine) (j : AccountId) : (s.setEngine e).account j = s.account j := rfl
@[simp] theorem setEngine_get_holdSlot (e : Engine) (j : HoldSlot) : (s.setEngine e).holdSlot j = s.holdSlot j := rfl
@[simp] theorem setEngine_get_branch (e : Engine) (j : BranchId) : (s.setEngine e).branch j = s.branch j := rfl
@[simp] theorem setEngine_get_station (e : Engine) (j : StationId) : (s.setEngine e).station j = s.station j := rfl
@[simp] theorem setEngine_get_outlet (e : Engine) (j : OutletId) : (s.setEngine e).outlet j = s.outlet j := rfl
@[simp] theorem setEngine_get_feeder (e : Engine) (j : PontoonId) : (s.setEngine e).feeder j = s.feeder j := rfl
@[simp] theorem setEngine_get_start (e : Engine) (j : PontoonId) : (s.setEngine e).start j = s.start j := rfl
@[simp] theorem setEngine_get_tap (e : Engine) (j : TapId) : (s.setEngine e).tap j = s.tap j := rfl
@[simp] theorem setEngine_get_tank (e : Engine) (j : GradeId) : (s.setEngine e).tank j = s.tank j := rfl
@[simp] theorem setEngine_get_dispenser (e : Engine) (j : DispenserId) : (s.setEngine e).dispenser j = s.dispenser j := rfl
@[simp] theorem setEngine_get_gate (e : Engine) (j : PontoonId) : (s.setEngine e).gate j = s.gate j := rfl
@[simp] theorem setEngine_get_credential (e : Engine) (j : CredentialSlot) : (s.setEngine e).credential j = s.credential j := rfl
@[simp] theorem setEngine_get_signal (e : Engine) (j : Fin 2) : (s.setEngine e).signal j = s.signal j := rfl
@[simp] theorem setEngine_get_now (e : Engine) : (s.setEngine e).now = s.now := rfl
@[simp] theorem setEngine_get_stamp (e : Engine) : (s.setEngine e).stamp = s.stamp := rfl

end Updates

end Sys2Proof.Machine
end

