-- ==== Sys2Proof/Laws/Frame.lean ====
section
/-! SUPPORT. What each shared operation leaves unchanged, said once: the lemmas are cited by `simp`, so that no later proof unfolds
an operation to see that it leaves a field alone. -/

namespace Sys2Proof.Machine

/-- Whether the upward queue is within its 64 notices (R183). -/
def State.room (s : State) : Bool := decide (s.trunk.notices.length ≤ Config.noticeLimit)

/-! ### Choices and loops -/

@[simp] theorem ite_pending (c : Prop) [Decidable c] (a b : State) : (if c then a else b).pending = if c then a.pending else b.pending := by split <;> rfl
@[simp] theorem ite_part (c : Prop) [Decidable c] (a b : State) : (if c then a else b).part = if c then a.part else b.part := by split <;> rfl
@[simp] theorem ite_trunk (c : Prop) [Decidable c] (a b : State) : (if c then a else b).trunk = if c then a.trunk else b.trunk := by split <;> rfl
@[simp] theorem ite_settings (c : Prop) [Decidable c] (a b : State) : (if c then a else b).settings = if c then a.settings else b.settings := by split <;> rfl
@[simp] theorem ite_clock (c : Prop) [Decidable c] (a b : State) : (if c then a else b).clock = if c then a.clock else b.clock := by split <;> rfl
@[simp] theorem ite_register (c : Prop) [Decidable c] (a b : State) : (if c then a else b).register = if c then a.register else b.register := by split <;> rfl
@[simp] theorem ite_engine (c : Prop) [Decidable c] (a b : State) : (if c then a else b).engine = if c then a.engine else b.engine := by split <;> rfl
@[simp] theorem ite_ledger (c : Prop) [Decidable c] (a b : State) : (if c then a else b).ledger = if c then a.ledger else b.ledger := by split <;> rfl
@[simp] theorem ite_link (c : Prop) [Decidable c] (a b : State) : (if c then a else b).link = if c then a.link else b.link := by split <;> rfl
@[simp] theorem ite_power (c : Prop) [Decidable c] (a b : State) : (if c then a else b).power = if c then a.power else b.power := by split <;> rfl
@[simp] theorem ite_water (c : Prop) [Decidable c] (a b : State) : (if c then a else b).water = if c then a.water else b.water := by split <;> rfl
@[simp] theorem ite_fuel (c : Prop) [Decidable c] (a b : State) : (if c then a else b).fuel = if c then a.fuel else b.fuel := by split <;> rfl
@[simp] theorem ite_access (c : Prop) [Decidable c] (a b : State) : (if c then a else b).access = if c then a.access else b.access := by split <;> rfl
@[simp] theorem ite_lines (c : Prop) [Decidable c] (a b : State) : (if c then a else b).lines = if c then a.lines else b.lines := by split <;> rfl
@[simp] theorem ite_part_condition (c : Prop) [Decidable c] (a b : Part) : (if c then a else b).condition = if c then a.condition else b.condition := by split <;> rfl
@[simp] theorem ite_part_timeBase (c : Prop) [Decidable c] (a b : Part) : (if c then a else b).timeBase = if c then a.timeBase else b.timeBase := by split <;> rfl
@[simp] theorem ite_part_retentionAgrees (c : Prop) [Decidable c] (a b : Part) : (if c then a else b).retentionAgrees = if c then a.retentionAgrees else b.retentionAgrees := by split <;> rfl
@[simp] theorem ite_part_setupStrapLow (c : Prop) [Decidable c] (a b : Part) : (if c then a else b).setupStrapLow = if c then a.setupStrapLow else b.setupStrapLow := by split <;> rfl
@[simp] theorem ite_part_resetLow (c : Prop) [Decidable c] (a b : Part) : (if c then a else b).resetLow = if c then a.resetLow else b.resetLow := by split <;> rfl
@[simp] theorem ite_part_draws (c : Prop) [Decidable c] (a b : Part) : (if c then a else b).draws = if c then a.draws else b.draws := by split <;> rfl
@[simp] theorem ite_trunk_node (c : Prop) [Decidable c] (a b : Trunk) : (if c then a else b).node = if c then a.node else b.node := by split <;> rfl
@[simp] theorem ite_trunk_owed (c : Prop) [Decidable c] (a b : Trunk) : (if c then a else b).owed = if c then a.owed else b.owed := by split <;> rfl
@[simp] theorem ite_trunk_kept (c : Prop) [Decidable c] (a b : Trunk) : (if c then a else b).kept = if c then a.kept else b.kept := by split <;> rfl
@[simp] theorem ite_trunk_cursor (c : Prop) [Decidable c] (a b : Trunk) : (if c then a else b).cursor = if c then a.cursor else b.cursor := by split <;> rfl
@[simp] theorem ite_trunk_mode (c : Prop) [Decidable c] (a b : Trunk) : (if c then a else b).mode = if c then a.mode else b.mode := by split <;> rfl
@[simp] theorem ite_trunk_cause (c : Prop) [Decidable c] (a b : Trunk) : (if c then a else b).cause = if c then a.cause else b.cause := by split <;> rfl
@[simp] theorem ite_trunk_commandStart (c : Prop) [Decidable c] (a b : Trunk) : (if c then a else b).commandStart = if c then a.commandStart else b.commandStart := by split <;> rfl
@[simp] theorem ite_trunk_notices (c : Prop) [Decidable c] (a b : Trunk) : (if c then a else b).notices = if c then a.notices else b.notices := by split <;> rfl
@[simp] theorem ite_trunk_lost (c : Prop) [Decidable c] (a b : Trunk) : (if c then a else b).lost = if c then a.lost else b.lost := by split <;> rfl
@[simp] theorem ite_clock_value (c : Prop) [Decidable c] (a b : Clock) : (if c then a else b).value = if c then a.value else b.value := by split <;> rfl
@[simp] theorem ite_clock_isSet (c : Prop) [Decidable c] (a b : Clock) : (if c then a else b).isSet = if c then a.isSet else b.isSet := by split <;> rfl
@[simp] theorem ite_clock_rollover (c : Prop) [Decidable c] (a b : Clock) : (if c then a else b).rollover = if c then a.rollover else b.rollover := by split <;> rfl
@[simp] theorem ite_clock_unsetNoted (c : Prop) [Decidable c] (a b : Clock) : (if c then a else b).unsetNoted = if c then a.unsetNoted else b.unsetNoted := by split <;> rfl
@[simp] theorem ite_clock_nextAdvance (c : Prop) [Decidable c] (a b : Clock) : (if c then a else b).nextAdvance = if c then a.nextAdvance else b.nextAdvance := by split <;> rfl
@[simp] theorem ite_register_pontoons (c : Prop) [Decidable c] (a b : Register) : (if c then a else b).pontoons = if c then a.pontoons else b.pontoons := by split <;> rfl
@[simp] theorem ite_register_berths (c : Prop) [Decidable c] (a b : Register) : (if c then a else b).berths = if c then a.berths else b.berths := by split <;> rfl
@[simp] theorem ite_register_stays (c : Prop) [Decidable c] (a b : Register) : (if c then a else b).stays = if c then a.stays else b.stays := by split <;> rfl
@[simp] theorem ite_register_arrivals (c : Prop) [Decidable c] (a b : Register) : (if c then a else b).arrivals = if c then a.arrivals else b.arrivals := by split <;> rfl
@[simp] theorem ite_ledger_accounts (c : Prop) [Decidable c] (a b : Ledger) : (if c then a else b).accounts = if c then a.accounts else b.accounts := by split <;> rfl
@[simp] theorem ite_ledger_holds (c : Prop) [Decidable c] (a b : Ledger) : (if c then a else b).holds = if c then a.holds else b.holds := by split <;> rfl
@[simp] theorem ite_ledger_tariff (c : Prop) [Decidable c] (a b : Ledger) : (if c then a else b).tariff = if c then a.tariff else b.tariff := by split <;> rfl
@[simp] theorem ite_ledger_rolloverDay (c : Prop) [Decidable c] (a b : Ledger) : (if c then a else b).rolloverDay = if c then a.rolloverDay else b.rolloverDay := by split <;> rfl
@[simp] theorem ite_ledger_pass (c : Prop) [Decidable c] (a b : Ledger) : (if c then a else b).pass = if c then a.pass else b.pass := by split <;> rfl
@[simp] theorem ite_link_branches (c : Prop) [Decidable c] (a b : Link) : (if c then a else b).branches = if c then a.branches else b.branches := by split <;> rfl
@[simp] theorem ite_link_stations (c : Prop) [Decidable c] (a b : Link) : (if c then a else b).stations = if c then a.stations else b.stations := by split <;> rfl
@[simp] theorem ite_link_filter (c : Prop) [Decidable c] (a b : Link) : (if c then a else b).filter = if c then a.filter else b.filter := by split <;> rfl
@[simp] theorem ite_link_waterShown (c : Prop) [Decidable c] (a b : Link) : (if c then a else b).waterShown = if c then a.waterShown else b.waterShown := by split <;> rfl
@[simp] theorem ite_power_outlets (c : Prop) [Decidable c] (a b : Power) : (if c then a else b).outlets = if c then a.outlets else b.outlets := by split <;> rfl
@[simp] theorem ite_power_feeders (c : Prop) [Decidable c] (a b : Power) : (if c then a else b).feeders = if c then a.feeders else b.feeders := by split <;> rfl
@[simp] theorem ite_power_starts (c : Prop) [Decidable c] (a b : Power) : (if c then a else b).starts = if c then a.starts else b.starts := by split <;> rfl
@[simp] theorem ite_power_programs (c : Prop) [Decidable c] (a b : Power) : (if c then a else b).programs = if c then a.programs else b.programs := by split <;> rfl
@[simp] theorem ite_fuel_tanks (c : Prop) [Decidable c] (a b : Fuel) : (if c then a else b).tanks = if c then a.tanks else b.tanks := by split <;> rfl
@[simp] theorem ite_fuel_dispensers (c : Prop) [Decidable c] (a b : Fuel) : (if c then a else b).dispensers = if c then a.dispensers else b.dispensers := by split <;> rfl
@[simp] theorem ite_fuel_journal (c : Prop) [Decidable c] (a b : Fuel) : (if c then a else b).journal = if c then a.journal else b.journal := by split <;> rfl
@[simp] theorem ite_fuel_nextSale (c : Prop) [Decidable c] (a b : Fuel) : (if c then a else b).nextSale = if c then a.nextSale else b.nextSale := by split <;> rfl
@[simp] theorem ite_access_credentials (c : Prop) [Decidable c] (a b : Access) : (if c then a else b).credentials = if c then a.credentials else b.credentials := by split <;> rfl
@[simp] theorem ite_access_gates (c : Prop) [Decidable c] (a b : Access) : (if c then a else b).gates = if c then a.gates else b.gates := by split <;> rfl
@[simp] theorem ite_access_officeRelease (c : Prop) [Decidable c] (a b : Access) : (if c then a else b).officeRelease = if c then a.officeRelease else b.officeRelease := by split <;> rfl
@[simp] theorem ite_access_log (c : Prop) [Decidable c] (a b : Access) : (if c then a else b).log = if c then a.log else b.log := by split <;> rfl
@[simp] theorem ite_access_nextPosition (c : Prop) [Decidable c] (a b : Access) : (if c then a else b).nextPosition = if c then a.nextPosition else b.nextPosition := by split <;> rfl
@[simp] theorem ite_access_nextSequence (c : Prop) [Decidable c] (a b : Access) : (if c then a else b).nextSequence = if c then a.nextSequence else b.nextSequence := by split <;> rfl
@[simp] theorem ite_lines_signals (c : Prop) [Decidable c] (a b : Lines) : (if c then a else b).signals = if c then a.signals else b.signals := by split <;> rfl
@[simp] theorem ite_lines_fire (c : Prop) [Decidable c] (a b : Lines) : (if c then a else b).fire = if c then a.fire else b.fire := by split <;> rfl
@[simp] theorem ite_lines_estop (c : Prop) [Decidable c] (a b : Lines) : (if c then a else b).estop = if c then a.estop else b.estop := by split <;> rfl
@[simp] theorem ite_room (c : Prop) [Decidable c] (a b : State) : (if c then a else b).room = if c then a.room else b.room := by split <;> rfl
@[simp] theorem ite_now (c : Prop) [Decidable c] (a b : State) : (if c then a else b).now = if c then a.now else b.now := by split <;> rfl
@[simp] theorem ite_stamp (c : Prop) [Decidable c] (a b : State) : (if c then a else b).stamp = if c then a.stamp else b.stamp := by split <;> rfl
@[simp] theorem ite_arrivals (c : Prop) [Decidable c] (a b : State) : (if c then a else b).arrivals = if c then a.arrivals else b.arrivals := by split <;> rfl
@[simp] theorem ite_get_stay (c : Prop) [Decidable c] (a b : State) (i : StayId) : (if c then a else b).stay i = if c then a.stay i else b.stay i := by split <;> rfl
@[simp] theorem ite_get_berth (c : Prop) [Decidable c] (a b : State) (i : BerthId) : (if c then a else b).berth i = if c then a.berth i else b.berth i := by split <;> rfl
@[simp] theorem ite_get_pontoon (c : Prop) [Decidable c] (a b : State) (i : PontoonId) : (if c then a else b).pontoon i = if c then a.pontoon i else b.pontoon i := by split <;> rfl
@[simp] theorem ite_get_account (c : Prop) [Decidable c] (a b : State) (i : AccountId) : (if c then a else b).account i = if c then a.account i else b.account i := by split <;> rfl
@[simp] theorem ite_get_holdSlot (c : Prop) [Decidable c] (a b : State) (i : HoldSlot) : (if c then a else b).holdSlot i = if c then a.holdSlot i else b.holdSlot i := by split <;> rfl
@[simp] theorem ite_get_branch (c : Prop) [Decidable c] (a b : State) (i : BranchId) : (if c then a else b).branch i = if c then a.branch i else b.branch i := by split <;> rfl
@[simp] theorem ite_get_station (c : Prop) [Decidable c] (a b : State) (i : StationId) : (if c then a else b).station i = if c then a.station i else b.station i := by split <;> rfl
@[simp] theorem ite_get_outlet (c : Prop) [Decidable c] (a b : State) (i : OutletId) : (if c then a else b).outlet i = if c then a.outlet i else b.outlet i := by split <;> rfl
@[simp] theorem ite_get_feeder (c : Prop) [Decidable c] (a b : State) (i : PontoonId) : (if c then a else b).feeder i = if c then a.feeder i else b.feeder i := by split <;> rfl
@[simp] theorem ite_get_start (c : Prop) [Decidable c] (a b : State) (i : PontoonId) : (if c then a else b).start i = if c then a.start i else b.start i := by split <;> rfl
@[simp] theorem ite_get_tap (c : Prop) [Decidable c] (a b : State) (i : TapId) : (if c then a else b).tap i = if c then a.tap i else b.tap i := by split <;> rfl
@[simp] theorem ite_get_tank (c : Prop) [Decidable c] (a b : State) (i : GradeId) : (if c then a else b).tank i = if c then a.tank i else b.tank i := by split <;> rfl
@[simp] theorem ite_get_dispenser (c : Prop) [Decidable c] (a b : State) (i : DispenserId) : (if c then a else b).dispenser i = if c then a.dispenser i else b.dispenser i := by split <;> rfl
@[simp] theorem ite_get_gate (c : Prop) [Decidable c] (a b : State) (i : PontoonId) : (if c then a else b).gate i = if c then a.gate i else b.gate i := by split <;> rfl
@[simp] theorem ite_get_credential (c : Prop) [Decidable c] (a b : State) (i : CredentialSlot) : (if c then a else b).credential i = if c then a.credential i else b.credential i := by split <;> rfl
@[simp] theorem ite_get_signal (c : Prop) [Decidable c] (a b : State) (i : Fin 2) : (if c then a else b).signal i = if c then a.signal i else b.signal i := by split <;> rfl
@[simp] theorem done_fst (s : State) : (done s).1 = s := rfl
@[simp] theorem done_snd (s : State) : (done s).2 = .done [] := rfl
@[simp] theorem refuse_fst (r : Reason) (s : State) : (refuse r s).1 = s := rfl
@[simp] theorem refuse_snd (r : Reason) (s : State) : (refuse r s).2 = .refused r 0 := rfl

/-- What every pass of a loop keeps, the loop keeps. -/
theorem forEach_keeps {α β : Type} {f : α → State → State} (g : State → β) (h : ∀ x s, g (f x s) = g s) (l : List α)
    (s : State) : g (forEach f l s) = g s := by
  induction l generalizing s with
  | nil => rfl
  | cons a l ih => exact (ih (f a s)).trans (h a s)

/-- What the owner of a request keeps, and what is no part of the answers owed and kept, the whole taking keeps. -/
theorem takeRequest_keeps {β : Type} {owner : Owner} (g : State → β)
    (hg : ∀ (s : State) o k, g { s with trunk := { s.trunk with owed := o, kept := k } } = g s)
    (w : ∀ s, g (owner s).1 = g s) (h : ReqHeader) (code : Nat) (p : List Byte) (s : State) :
    g (takeRequest h code p owner s) = g s := by
  unfold takeRequest
  split
  · rfl
  · split
    · exact hg s _ s.trunk.kept
    · split
      · exact hg s _ s.trunk.kept
      · unfold takeFresh owe refuse
        split
        · exact (hg (owner s).1 _ _).trans (w s)
        · exact hg s _ _

@[simp] theorem forEach_pending {α : Type} {f : α → State → State} (h : ∀ x s, (f x s).pending = s.pending)
    (l : List α) (s : State) : (forEach f l s).pending = s.pending := forEach_keeps (·.pending) h l s
@[simp] theorem forEach_part {α : Type} {f : α → State → State} (h : ∀ x s, (f x s).part = s.part)
    (l : List α) (s : State) : (forEach f l s).part = s.part := forEach_keeps (·.part) h l s
@[simp] theorem forEach_part_condition {α : Type} {f : α → State → State} (h : ∀ x s, (f x s).part.condition = s.part.condition)
    (l : List α) (s : State) : (forEach f l s).part.condition = s.part.condition := forEach_keeps (·.part.condition) h l s
@[simp] theorem forEach_part_timeBase {α : Type} {f : α → State → State} (h : ∀ x s, (f x s).part.timeBase = s.part.timeBase)
    (l : List α) (s : State) : (forEach f l s).part.timeBase = s.part.timeBase := forEach_keeps (·.part.timeBase) h l s
@[simp] theorem forEach_part_retentionAgrees {α : Type} {f : α → State → State} (h : ∀ x s, (f x s).part.retentionAgrees = s.part.retentionAgrees)
    (l : List α) (s : State) : (forEach f l s).part.retentionAgrees = s.part.retentionAgrees := forEach_keeps (·.part.retentionAgrees) h l s
@[simp] theorem forEach_part_setupStrapLow {α : Type} {f : α → State → State} (h : ∀ x s, (f x s).part.setupStrapLow = s.part.setupStrapLow)
    (l : List α) (s : State) : (forEach f l s).part.setupStrapLow = s.part.setupStrapLow := forEach_keeps (·.part.setupStrapLow) h l s
@[simp] theorem forEach_part_resetLow {α : Type} {f : α → State → State} (h : ∀ x s, (f x s).part.resetLow = s.part.resetLow)
    (l : List α) (s : State) : (forEach f l s).part.resetLow = s.part.resetLow := forEach_keeps (·.part.resetLow) h l s
@[simp] theorem forEach_part_draws {α : Type} {f : α → State → State} (h : ∀ x s, (f x s).part.draws = s.part.draws)
    (l : List α) (s : State) : (forEach f l s).part.draws = s.part.draws := forEach_keeps (·.part.draws) h l s
@[simp] theorem forEach_trunk {α : Type} {f : α → State → State} (h : ∀ x s, (f x s).trunk = s.trunk)
    (l : List α) (s : State) : (forEach f l s).trunk = s.trunk := forEach_keeps (·.trunk) h l s
@[simp] theorem forEach_trunk_node {α : Type} {f : α → State → State} (h : ∀ x s, (f x s).trunk.node = s.trunk.node)
    (l : List α) (s : State) : (forEach f l s).trunk.node = s.trunk.node := forEach_keeps (·.trunk.node) h l s
@[simp] theorem forEach_trunk_owed {α : Type} {f : α → State → State} (h : ∀ x s, (f x s).trunk.owed = s.trunk.owed)
    (l : List α) (s : State) : (forEach f l s).trunk.owed = s.trunk.owed := forEach_keeps (·.trunk.owed) h l s
@[simp] theorem forEach_trunk_kept {α : Type} {f : α → State → State} (h : ∀ x s, (f x s).trunk.kept = s.trunk.kept)
    (l : List α) (s : State) : (forEach f l s).trunk.kept = s.trunk.kept := forEach_keeps (·.trunk.kept) h l s
@[simp] theorem forEach_trunk_cursor {α : Type} {f : α → State → State} (h : ∀ x s, (f x s).trunk.cursor = s.trunk.cursor)
    (l : List α) (s : State) : (forEach f l s).trunk.cursor = s.trunk.cursor := forEach_keeps (·.trunk.cursor) h l s
@[simp] theorem forEach_trunk_mode {α : Type} {f : α → State → State} (h : ∀ x s, (f x s).trunk.mode = s.trunk.mode)
    (l : List α) (s : State) : (forEach f l s).trunk.mode = s.trunk.mode := forEach_keeps (·.trunk.mode) h l s
@[simp] theorem forEach_trunk_cause {α : Type} {f : α → State → State} (h : ∀ x s, (f x s).trunk.cause = s.trunk.cause)
    (l : List α) (s : State) : (forEach f l s).trunk.cause = s.trunk.cause := forEach_keeps (·.trunk.cause) h l s
@[simp] theorem forEach_trunk_commandStart {α : Type} {f : α → State → State} (h : ∀ x s, (f x s).trunk.commandStart = s.trunk.commandStart)
    (l : List α) (s : State) : (forEach f l s).trunk.commandStart = s.trunk.commandStart := forEach_keeps (·.trunk.commandStart) h l s
@[simp] theorem forEach_trunk_notices {α : Type} {f : α → State → State} (h : ∀ x s, (f x s).trunk.notices = s.trunk.notices)
    (l : List α) (s : State) : (forEach f l s).trunk.notices = s.trunk.notices := forEach_keeps (·.trunk.notices) h l s
@[simp] theorem forEach_trunk_lost {α : Type} {f : α → State → State} (h : ∀ x s, (f x s).trunk.lost = s.trunk.lost)
    (l : List α) (s : State) : (forEach f l s).trunk.lost = s.trunk.lost := forEach_keeps (·.trunk.lost) h l s
@[simp] theorem forEach_settings {α : Type} {f : α → State → State} (h : ∀ x s, (f x s).settings = s.settings)
    (l : List α) (s : State) : (forEach f l s).settings = s.settings := forEach_keeps (·.settings) h l s
@[simp] theorem forEach_clock {α : Type} {f : α → State → State} (h : ∀ x s, (f x s).clock = s.clock)
    (l : List α) (s : State) : (forEach f l s).clock = s.clock := forEach_keeps (·.clock) h l s
@[simp] theorem forEach_clock_value {α : Type} {f : α → State → State} (h : ∀ x s, (f x s).clock.value = s.clock.value)
    (l : List α) (s : State) : (forEach f l s).clock.value = s.clock.value := forEach_keeps (·.clock.value) h l s
@[simp] theorem forEach_clock_isSet {α : Type} {f : α → State → State} (h : ∀ x s, (f x s).clock.isSet = s.clock.isSet)
    (l : List α) (s : State) : (forEach f l s).clock.isSet = s.clock.isSet := forEach_keeps (·.clock.isSet) h l s
@[simp] theorem forEach_clock_rollover {α : Type} {f : α → State → State} (h : ∀ x s, (f x s).clock.rollover = s.clock.rollover)
    (l : List α) (s : State) : (forEach f l s).clock.rollover = s.clock.rollover := forEach_keeps (·.clock.rollover) h l s
@[simp] theorem forEach_clock_unsetNoted {α : Type} {f : α → State → State} (h : ∀ x s, (f x s).clock.unsetNoted = s.clock.unsetNoted)
    (l : List α) (s : State) : (forEach f l s).clock.unsetNoted = s.clock.unsetNoted := forEach_keeps (·.clock.unsetNoted) h l s
@[simp] theorem forEach_clock_nextAdvance {α : Type} {f : α → State → State} (h : ∀ x s, (f x s).clock.nextAdvance = s.clock.nextAdvance)
    (l : List α) (s : State) : (forEach f l s).clock.nextAdvance = s.clock.nextAdvance := forEach_keeps (·.clock.nextAdvance) h l s
@[simp] theorem forEach_register {α : Type} {f : α → State → State} (h : ∀ x s, (f x s).register = s.register)
    (l : List α) (s : State) : (forEach f l s).register = s.register := forEach_keeps (·.register) h l s
@[simp] theorem forEach_register_pontoons {α : Type} {f : α → State → State} (h : ∀ x s, (f x s).register.pontoons = s.register.pontoons)
    (l : List α) (s : State) : (forEach f l s).register.pontoons = s.register.pontoons := forEach_keeps (·.register.pontoons) h l s
@[simp] theorem forEach_register_berths {α : Type} {f : α → State → State} (h : ∀ x s, (f x s).register.berths = s.register.berths)
    (l : List α) (s : State) : (forEach f l s).register.berths = s.register.berths := forEach_keeps (·.register.berths) h l s
@[simp] theorem forEach_register_stays {α : Type} {f : α → State → State} (h : ∀ x s, (f x s).register.stays = s.register.stays)
    (l : List α) (s : State) : (forEach f l s).register.stays = s.register.stays := forEach_keeps (·.register.stays) h l s
@[simp] theorem forEach_register_arrivals {α : Type} {f : α → State → State} (h : ∀ x s, (f x s).register.arrivals = s.register.arrivals)
    (l : List α) (s : State) : (forEach f l s).register.arrivals = s.register.arrivals := forEach_keeps (·.register.arrivals) h l s
@[simp] theorem forEach_engine {α : Type} {f : α → State → State} (h : ∀ x s, (f x s).engine = s.engine)
    (l : List α) (s : State) : (forEach f l s).engine = s.engine := forEach_keeps (·.engine) h l s
@[simp] theorem forEach_ledger {α : Type} {f : α → State → State} (h : ∀ x s, (f x s).ledger = s.ledger)
    (l : List α) (s : State) : (forEach f l s).ledger = s.ledger := forEach_keeps (·.ledger) h l s
@[simp] theorem forEach_ledger_accounts {α : Type} {f : α → State → State} (h : ∀ x s, (f x s).ledger.accounts = s.ledger.accounts)
    (l : List α) (s : State) : (forEach f l s).ledger.accounts = s.ledger.accounts := forEach_keeps (·.ledger.accounts) h l s
@[simp] theorem forEach_ledger_holds {α : Type} {f : α → State → State} (h : ∀ x s, (f x s).ledger.holds = s.ledger.holds)
    (l : List α) (s : State) : (forEach f l s).ledger.holds = s.ledger.holds := forEach_keeps (·.ledger.holds) h l s
@[simp] theorem forEach_ledger_tariff {α : Type} {f : α → State → State} (h : ∀ x s, (f x s).ledger.tariff = s.ledger.tariff)
    (l : List α) (s : State) : (forEach f l s).ledger.tariff = s.ledger.tariff := forEach_keeps (·.ledger.tariff) h l s
@[simp] theorem forEach_ledger_rolloverDay {α : Type} {f : α → State → State} (h : ∀ x s, (f x s).ledger.rolloverDay = s.ledger.rolloverDay)
    (l : List α) (s : State) : (forEach f l s).ledger.rolloverDay = s.ledger.rolloverDay := forEach_keeps (·.ledger.rolloverDay) h l s
@[simp] theorem forEach_ledger_pass {α : Type} {f : α → State → State} (h : ∀ x s, (f x s).ledger.pass = s.ledger.pass)
    (l : List α) (s : State) : (forEach f l s).ledger.pass = s.ledger.pass := forEach_keeps (·.ledger.pass) h l s
@[simp] theorem forEach_link {α : Type} {f : α → State → State} (h : ∀ x s, (f x s).link = s.link)
    (l : List α) (s : State) : (forEach f l s).link = s.link := forEach_keeps (·.link) h l s
@[simp] theorem forEach_link_branches {α : Type} {f : α → State → State} (h : ∀ x s, (f x s).link.branches = s.link.branches)
    (l : List α) (s : State) : (forEach f l s).link.branches = s.link.branches := forEach_keeps (·.link.branches) h l s
@[simp] theorem forEach_link_stations {α : Type} {f : α → State → State} (h : ∀ x s, (f x s).link.stations = s.link.stations)
    (l : List α) (s : State) : (forEach f l s).link.stations = s.link.stations := forEach_keeps (·.link.stations) h l s
@[simp] theorem forEach_link_filter {α : Type} {f : α → State → State} (h : ∀ x s, (f x s).link.filter = s.link.filter)
    (l : List α) (s : State) : (forEach f l s).link.filter = s.link.filter := forEach_keeps (·.link.filter) h l s
@[simp] theorem forEach_link_waterShown {α : Type} {f : α → State → State} (h : ∀ x s, (f x s).link.waterShown = s.link.waterShown)
    (l : List α) (s : State) : (forEach f l s).link.waterShown = s.link.waterShown := forEach_keeps (·.link.waterShown) h l s
@[simp] theorem forEach_power {α : Type} {f : α → State → State} (h : ∀ x s, (f x s).power = s.power)
    (l : List α) (s : State) : (forEach f l s).power = s.power := forEach_keeps (·.power) h l s
@[simp] theorem forEach_power_outlets {α : Type} {f : α → State → State} (h : ∀ x s, (f x s).power.outlets = s.power.outlets)
    (l : List α) (s : State) : (forEach f l s).power.outlets = s.power.outlets := forEach_keeps (·.power.outlets) h l s
@[simp] theorem forEach_power_feeders {α : Type} {f : α → State → State} (h : ∀ x s, (f x s).power.feeders = s.power.feeders)
    (l : List α) (s : State) : (forEach f l s).power.feeders = s.power.feeders := forEach_keeps (·.power.feeders) h l s
@[simp] theorem forEach_power_starts {α : Type} {f : α → State → State} (h : ∀ x s, (f x s).power.starts = s.power.starts)
    (l : List α) (s : State) : (forEach f l s).power.starts = s.power.starts := forEach_keeps (·.power.starts) h l s
@[simp] theorem forEach_power_programs {α : Type} {f : α → State → State} (h : ∀ x s, (f x s).power.programs = s.power.programs)
    (l : List α) (s : State) : (forEach f l s).power.programs = s.power.programs := forEach_keeps (·.power.programs) h l s
@[simp] theorem forEach_water {α : Type} {f : α → State → State} (h : ∀ x s, (f x s).water = s.water)
    (l : List α) (s : State) : (forEach f l s).water = s.water := forEach_keeps (·.water) h l s
@[simp] theorem forEach_fuel {α : Type} {f : α → State → State} (h : ∀ x s, (f x s).fuel = s.fuel)
    (l : List α) (s : State) : (forEach f l s).fuel = s.fuel := forEach_keeps (·.fuel) h l s
@[simp] theorem forEach_fuel_tanks {α : Type} {f : α → State → State} (h : ∀ x s, (f x s).fuel.tanks = s.fuel.tanks)
    (l : List α) (s : State) : (forEach f l s).fuel.tanks = s.fuel.tanks := forEach_keeps (·.fuel.tanks) h l s
@[simp] theorem forEach_fuel_dispensers {α : Type} {f : α → State → State} (h : ∀ x s, (f x s).fuel.dispensers = s.fuel.dispensers)
    (l : List α) (s : State) : (forEach f l s).fuel.dispensers = s.fuel.dispensers := forEach_keeps (·.fuel.dispensers) h l s
@[simp] theorem forEach_fuel_journal {α : Type} {f : α → State → State} (h : ∀ x s, (f x s).fuel.journal = s.fuel.journal)
    (l : List α) (s : State) : (forEach f l s).fuel.journal = s.fuel.journal := forEach_keeps (·.fuel.journal) h l s
@[simp] theorem forEach_fuel_nextSale {α : Type} {f : α → State → State} (h : ∀ x s, (f x s).fuel.nextSale = s.fuel.nextSale)
    (l : List α) (s : State) : (forEach f l s).fuel.nextSale = s.fuel.nextSale := forEach_keeps (·.fuel.nextSale) h l s
@[simp] theorem forEach_access {α : Type} {f : α → State → State} (h : ∀ x s, (f x s).access = s.access)
    (l : List α) (s : State) : (forEach f l s).access = s.access := forEach_keeps (·.access) h l s
@[simp] theorem forEach_access_credentials {α : Type} {f : α → State → State} (h : ∀ x s, (f x s).access.credentials = s.access.credentials)
    (l : List α) (s : State) : (forEach f l s).access.credentials = s.access.credentials := forEach_keeps (·.access.credentials) h l s
@[simp] theorem forEach_access_gates {α : Type} {f : α → State → State} (h : ∀ x s, (f x s).access.gates = s.access.gates)
    (l : List α) (s : State) : (forEach f l s).access.gates = s.access.gates := forEach_keeps (·.access.gates) h l s
@[simp] theorem forEach_access_officeRelease {α : Type} {f : α → State → State} (h : ∀ x s, (f x s).access.officeRelease = s.access.officeRelease)
    (l : List α) (s : State) : (forEach f l s).access.officeRelease = s.access.officeRelease := forEach_keeps (·.access.officeRelease) h l s
@[simp] theorem forEach_access_log {α : Type} {f : α → State → State} (h : ∀ x s, (f x s).access.log = s.access.log)
    (l : List α) (s : State) : (forEach f l s).access.log = s.access.log := forEach_keeps (·.access.log) h l s
@[simp] theorem forEach_access_nextPosition {α : Type} {f : α → State → State} (h : ∀ x s, (f x s).access.nextPosition = s.access.nextPosition)
    (l : List α) (s : State) : (forEach f l s).access.nextPosition = s.access.nextPosition := forEach_keeps (·.access.nextPosition) h l s
@[simp] theorem forEach_access_nextSequence {α : Type} {f : α → State → State} (h : ∀ x s, (f x s).access.nextSequence = s.access.nextSequence)
    (l : List α) (s : State) : (forEach f l s).access.nextSequence = s.access.nextSequence := forEach_keeps (·.access.nextSequence) h l s
@[simp] theorem forEach_lines {α : Type} {f : α → State → State} (h : ∀ x s, (f x s).lines = s.lines)
    (l : List α) (s : State) : (forEach f l s).lines = s.lines := forEach_keeps (·.lines) h l s
@[simp] theorem forEach_lines_signals {α : Type} {f : α → State → State} (h : ∀ x s, (f x s).lines.signals = s.lines.signals)
    (l : List α) (s : State) : (forEach f l s).lines.signals = s.lines.signals := forEach_keeps (·.lines.signals) h l s
@[simp] theorem forEach_lines_fire {α : Type} {f : α → State → State} (h : ∀ x s, (f x s).lines.fire = s.lines.fire)
    (l : List α) (s : State) : (forEach f l s).lines.fire = s.lines.fire := forEach_keeps (·.lines.fire) h l s
@[simp] theorem forEach_lines_estop {α : Type} {f : α → State → State} (h : ∀ x s, (f x s).lines.estop = s.lines.estop)
    (l : List α) (s : State) : (forEach f l s).lines.estop = s.lines.estop := forEach_keeps (·.lines.estop) h l s
@[simp] theorem forEach_room {α : Type} {f : α → State → State} (h : ∀ x s, (f x s).room = s.room)
    (l : List α) (s : State) : (forEach f l s).room = s.room := forEach_keeps (·.room) h l s
@[simp] theorem forEach_now {α : Type} {f : α → State → State} (h : ∀ x s, (f x s).now = s.now)
    (l : List α) (s : State) : (forEach f l s).now = s.now := forEach_keeps (·.now) h l s
@[simp] theorem forEach_stamp {α : Type} {f : α → State → State} (h : ∀ x s, (f x s).stamp = s.stamp)
    (l : List α) (s : State) : (forEach f l s).stamp = s.stamp := forEach_keeps (·.stamp) h l s
@[simp] theorem forEach_get_arrivals {α : Type} {f : α → State → State} (h : ∀ x s, (f x s).arrivals = s.arrivals)
    (l : List α) (s : State) : (forEach f l s).arrivals = s.arrivals := forEach_keeps (·.arrivals) h l s
@[simp] theorem forEach_get_stay {α : Type} {f : α → State → State} (i : StayId) (h : ∀ x s, (f x s).stay i = s.stay i)
    (l : List α) (s : State) : (forEach f l s).stay i = s.stay i := forEach_keeps (·.stay i) h l s
@[simp] theorem forEach_get_berth {α : Type} {f : α → State → State} (i : BerthId) (h : ∀ x s, (f x s).berth i = s.berth i)
    (l : List α) (s : State) : (forEach f l s).berth i = s.berth i := forEach_keeps (·.berth i) h l s
@[simp] theorem forEach_get_pontoon {α : Type} {f : α → State → State} (i : PontoonId) (h : ∀ x s, (f x s).pontoon i = s.pontoon i)
    (l : List α) (s : State) : (forEach f l s).pontoon i = s.pontoon i := forEach_keeps (·.pontoon i) h l s
@[simp] theorem forEach_get_account {α : Type} {f : α → State → State} (i : AccountId) (h : ∀ x s, (f x s).account i = s.account i)
    (l : List α) (s : State) : (forEach f l s).account i = s.account i := forEach_keeps (·.account i) h l s
@[simp] theorem forEach_get_holdSlot {α : Type} {f : α → State → State} (i : HoldSlot) (h : ∀ x s, (f x s).holdSlot i = s.holdSlot i)
    (l : List α) (s : State) : (forEach f l s).holdSlot i = s.holdSlot i := forEach_keeps (·.holdSlot i) h l s
@[simp] theorem forEach_get_branch {α : Type} {f : α → State → State} (i : BranchId) (h : ∀ x s, (f x s).branch i = s.branch i)
    (l : List α) (s : State) : (forEach f l s).branch i = s.branch i := forEach_keeps (·.branch i) h l s
@[simp] theorem forEach_get_station {α : Type} {f : α → State → State} (i : StationId) (h : ∀ x s, (f x s).station i = s.station i)
    (l : List α) (s : State) : (forEach f l s).station i = s.station i := forEach_keeps (·.station i) h l s
@[simp] theorem forEach_get_outlet {α : Type} {f : α → State → State} (i : OutletId) (h : ∀ x s, (f x s).outlet i = s.outlet i)
    (l : List α) (s : State) : (forEach f l s).outlet i = s.outlet i := forEach_keeps (·.outlet i) h l s
@[simp] theorem forEach_get_feeder {α : Type} {f : α → State → State} (i : PontoonId) (h : ∀ x s, (f x s).feeder i = s.feeder i)
    (l : List α) (s : State) : (forEach f l s).feeder i = s.feeder i := forEach_keeps (·.feeder i) h l s
@[simp] theorem forEach_get_start {α : Type} {f : α → State → State} (i : PontoonId) (h : ∀ x s, (f x s).start i = s.start i)
    (l : List α) (s : State) : (forEach f l s).start i = s.start i := forEach_keeps (·.start i) h l s
@[simp] theorem forEach_get_tap {α : Type} {f : α → State → State} (i : TapId) (h : ∀ x s, (f x s).tap i = s.tap i)
    (l : List α) (s : State) : (forEach f l s).tap i = s.tap i := forEach_keeps (·.tap i) h l s
@[simp] theorem forEach_get_tank {α : Type} {f : α → State → State} (i : GradeId) (h : ∀ x s, (f x s).tank i = s.tank i)
    (l : List α) (s : State) : (forEach f l s).tank i = s.tank i := forEach_keeps (·.tank i) h l s
@[simp] theorem forEach_get_dispenser {α : Type} {f : α → State → State} (i : DispenserId) (h : ∀ x s, (f x s).dispenser i = s.dispenser i)
    (l : List α) (s : State) : (forEach f l s).dispenser i = s.dispenser i := forEach_keeps (·.dispenser i) h l s
@[simp] theorem forEach_get_gate {α : Type} {f : α → State → State} (i : PontoonId) (h : ∀ x s, (f x s).gate i = s.gate i)
    (l : List α) (s : State) : (forEach f l s).gate i = s.gate i := forEach_keeps (·.gate i) h l s
@[simp] theorem forEach_get_credential {α : Type} {f : α → State → State} (i : CredentialSlot) (h : ∀ x s, (f x s).credential i = s.credential i)
    (l : List α) (s : State) : (forEach f l s).credential i = s.credential i := forEach_keeps (·.credential i) h l s
@[simp] theorem forEach_get_signal {α : Type} {f : α → State → State} (i : Fin 2) (h : ∀ x s, (f x s).signal i = s.signal i)
    (l : List α) (s : State) : (forEach f l s).signal i = s.signal i := forEach_keeps (·.signal i) h l s
@[simp] theorem takeRequest_pending {owner : Owner} (w : ∀ s, (owner s).1.pending = s.pending) 
    (h : ReqHeader) (code : Nat) (p : List Byte) (s : State) : (takeRequest h code p owner s).pending = s.pending :=
  takeRequest_keeps (·.pending) (fun _ _ _ => rfl) w h code p s
@[simp] theorem takeRequest_part {owner : Owner} (w : ∀ s, (owner s).1.part = s.part) 
    (h : ReqHeader) (code : Nat) (p : List Byte) (s : State) : (takeRequest h code p owner s).part = s.part :=
  takeRequest_keeps (·.part) (fun _ _ _ => rfl) w h code p s
@[simp] theorem takeRequest_part_condition {owner : Owner} (w : ∀ s, (owner s).1.part.condition = s.part.condition) 
    (h : ReqHeader) (code : Nat) (p : List Byte) (s : State) : (takeRequest h code p owner s).part.condition = s.part.condition :=
  takeRequest_keeps (·.part.condition) (fun _ _ _ => rfl) w h code p s
@[simp] theorem takeRequest_part_timeBase {owner : Owner} (w : ∀ s, (owner s).1.part.timeBase = s.part.timeBase) 
    (h : ReqHeader) (code : Nat) (p : List Byte) (s : State) : (takeRequest h code p owner s).part.timeBase = s.part.timeBase :=
  takeRequest_keeps (·.part.timeBase) (fun _ _ _ => rfl) w h code p s
@[simp] theorem takeRequest_part_retentionAgrees {owner : Owner} (w : ∀ s, (owner s).1.part.retentionAgrees = s.part.retentionAgrees) 
    (h : ReqHeader) (code : Nat) (p : List Byte) (s : State) : (takeRequest h code p owner s).part.retentionAgrees = s.part.retentionAgrees :=
  takeRequest_keeps (·.part.retentionAgrees) (fun _ _ _ => rfl) w h code p s
@[simp] theorem takeRequest_part_setupStrapLow {owner : Owner} (w : ∀ s, (owner s).1.part.setupStrapLow = s.part.setupStrapLow) 
    (h : ReqHeader) (code : Nat) (p : List Byte) (s : State) : (takeRequest h code p owner s).part.setupStrapLow = s.part.setupStrapLow :=
  takeRequest_keeps (·.part.setupStrapLow) (fun _ _ _ => rfl) w h code p s
@[simp] theorem takeRequest_part_resetLow {owner : Owner} (w : ∀ s, (owner s).1.part.resetLow = s.part.resetLow) 
    (h : ReqHeader) (code : Nat) (p : List Byte) (s : State) : (takeRequest h code p owner s).part.resetLow = s.part.resetLow :=
  takeRequest_keeps (·.part.resetLow) (fun _ _ _ => rfl) w h code p s
@[simp] theorem takeRequest_part_draws {owner : Owner} (w : ∀ s, (owner s).1.part.draws = s.part.draws) 
    (h : ReqHeader) (code : Nat) (p : List Byte) (s : State) : (takeRequest h code p owner s).part.draws = s.part.draws :=
  takeRequest_keeps (·.part.draws) (fun _ _ _ => rfl) w h code p s
@[simp] theorem takeRequest_trunk_node {owner : Owner} (w : ∀ s, (owner s).1.trunk.node = s.trunk.node) 
    (h : ReqHeader) (code : Nat) (p : List Byte) (s : State) : (takeRequest h code p owner s).trunk.node = s.trunk.node :=
  takeRequest_keeps (·.trunk.node) (fun _ _ _ => rfl) w h code p s
@[simp] theorem takeRequest_trunk_cursor {owner : Owner} (w : ∀ s, (owner s).1.trunk.cursor = s.trunk.cursor) 
    (h : ReqHeader) (code : Nat) (p : List Byte) (s : State) : (takeRequest h code p owner s).trunk.cursor = s.trunk.cursor :=
  takeRequest_keeps (·.trunk.cursor) (fun _ _ _ => rfl) w h code p s
@[simp] theorem takeRequest_trunk_mode {owner : Owner} (w : ∀ s, (owner s).1.trunk.mode = s.trunk.mode) 
    (h : ReqHeader) (code : Nat) (p : List Byte) (s : State) : (takeRequest h code p owner s).trunk.mode = s.trunk.mode :=
  takeRequest_keeps (·.trunk.mode) (fun _ _ _ => rfl) w h code p s
@[simp] theorem takeRequest_trunk_cause {owner : Owner} (w : ∀ s, (owner s).1.trunk.cause = s.trunk.cause) 
    (h : ReqHeader) (code : Nat) (p : List Byte) (s : State) : (takeRequest h code p owner s).trunk.cause = s.trunk.cause :=
  takeRequest_keeps (·.trunk.cause) (fun _ _ _ => rfl) w h code p s
@[simp] theorem takeRequest_trunk_commandStart {owner : Owner} (w : ∀ s, (owner s).1.trunk.commandStart = s.trunk.commandStart) 
    (h : ReqHeader) (code : Nat) (p : List Byte) (s : State) : (takeRequest h code p owner s).trunk.commandStart = s.trunk.commandStart :=
  takeRequest_keeps (·.trunk.commandStart) (fun _ _ _ => rfl) w h code p s
@[simp] theorem takeRequest_trunk_notices {owner : Owner} (w : ∀ s, (owner s).1.trunk.notices = s.trunk.notices) 
    (h : ReqHeader) (code : Nat) (p : List Byte) (s : State) : (takeRequest h code p owner s).trunk.notices = s.trunk.notices :=
  takeRequest_keeps (·.trunk.notices) (fun _ _ _ => rfl) w h code p s
@[simp] theorem takeRequest_trunk_lost {owner : Owner} (w : ∀ s, (owner s).1.trunk.lost = s.trunk.lost) 
    (h : ReqHeader) (code : Nat) (p : List Byte) (s : State) : (takeRequest h code p owner s).trunk.lost = s.trunk.lost :=
  takeRequest_keeps (·.trunk.lost) (fun _ _ _ => rfl) w h code p s
@[simp] theorem takeRequest_settings {owner : Owner} (w : ∀ s, (owner s).1.settings = s.settings) 
    (h : ReqHeader) (code : Nat) (p : List Byte) (s : State) : (takeRequest h code p owner s).settings = s.settings :=
  takeRequest_keeps (·.settings) (fun _ _ _ => rfl) w h code p s
@[simp] theorem takeRequest_clock {owner : Owner} (w : ∀ s, (owner s).1.clock = s.clock) 
    (h : ReqHeader) (code : Nat) (p : List Byte) (s : State) : (takeRequest h code p owner s).clock = s.clock :=
  takeRequest_keeps (·.clock) (fun _ _ _ => rfl) w h code p s
@[simp] theorem takeRequest_clock_value {owner : Owner} (w : ∀ s, (owner s).1.clock.value = s.clock.value) 
    (h : ReqHeader) (code : Nat) (p : List Byte) (s : State) : (takeRequest h code p owner s).clock.value = s.clock.value :=
  takeRequest_keeps (·.clock.value) (fun _ _ _ => rfl) w h code p s
@[simp] theorem takeRequest_clock_isSet {owner : Owner} (w : ∀ s, (owner s).1.clock.isSet = s.clock.isSet) 
    (h : ReqHeader) (code : Nat) (p : List Byte) (s : State) : (takeRequest h code p owner s).clock.isSet = s.clock.isSet :=
  takeRequest_keeps (·.clock.isSet) (fun _ _ _ => rfl) w h code p s
@[simp] theorem takeRequest_clock_rollover {owner : Owner} (w : ∀ s, (owner s).1.clock.rollover = s.clock.rollover) 
    (h : ReqHeader) (code : Nat) (p : List Byte) (s : State) : (takeRequest h code p owner s).clock.rollover = s.clock.rollover :=
  takeRequest_keeps (·.clock.rollover) (fun _ _ _ => rfl) w h code p s
@[simp] theorem takeRequest_clock_unsetNoted {owner : Owner} (w : ∀ s, (owner s).1.clock.unsetNoted = s.clock.unsetNoted) 
    (h : ReqHeader) (code : Nat) (p : List Byte) (s : State) : (takeRequest h code p owner s).clock.unsetNoted = s.clock.unsetNoted :=
  takeRequest_keeps (·.clock.unsetNoted) (fun _ _ _ => rfl) w h code p s
@[simp] theorem takeRequest_clock_nextAdvance {owner : Owner} (w : ∀ s, (owner s).1.clock.nextAdvance = s.clock.nextAdvance) 
    (h : ReqHeader) (code : Nat) (p : List Byte) (s : State) : (takeRequest h code p owner s).clock.nextAdvance = s.clock.nextAdvance :=
  takeRequest_keeps (·.clock.nextAdvance) (fun _ _ _ => rfl) w h code p s
@[simp] theorem takeRequest_register {owner : Owner} (w : ∀ s, (owner s).1.register = s.register) 
    (h : ReqHeader) (code : Nat) (p : List Byte) (s : State) : (takeRequest h code p owner s).register = s.register :=
  takeRequest_keeps (·.register) (fun _ _ _ => rfl) w h code p s
@[simp] theorem takeRequest_register_pontoons {owner : Owner} (w : ∀ s, (owner s).1.register.pontoons = s.register.pontoons) 
    (h : ReqHeader) (code : Nat) (p : List Byte) (s : State) : (takeRequest h code p owner s).register.pontoons = s.register.pontoons :=
  takeRequest_keeps (·.register.pontoons) (fun _ _ _ => rfl) w h code p s
@[simp] theorem takeRequest_register_berths {owner : Owner} (w : ∀ s, (owner s).1.register.berths = s.register.berths) 
    (h : ReqHeader) (code : Nat) (p : List Byte) (s : State) : (takeRequest h code p owner s).register.berths = s.register.berths :=
  takeRequest_keeps (·.register.berths) (fun _ _ _ => rfl) w h code p s
@[simp] theorem takeRequest_register_stays {owner : Owner} (w : ∀ s, (owner s).1.register.stays = s.register.stays) 
    (h : ReqHeader) (code : Nat) (p : List Byte) (s : State) : (takeRequest h code p owner s).register.stays = s.register.stays :=
  takeRequest_keeps (·.register.stays) (fun _ _ _ => rfl) w h code p s
@[simp] theorem takeRequest_register_arrivals {owner : Owner} (w : ∀ s, (owner s).1.register.arrivals = s.register.arrivals) 
    (h : ReqHeader) (code : Nat) (p : List Byte) (s : State) : (takeRequest h code p owner s).register.arrivals = s.register.arrivals :=
  takeRequest_keeps (·.register.arrivals) (fun _ _ _ => rfl) w h code p s
@[simp] theorem takeRequest_engine {owner : Owner} (w : ∀ s, (owner s).1.engine = s.engine) 
    (h : ReqHeader) (code : Nat) (p : List Byte) (s : State) : (takeRequest h code p owner s).engine = s.engine :=
  takeRequest_keeps (·.engine) (fun _ _ _ => rfl) w h code p s
@[simp] theorem takeRequest_ledger {owner : Owner} (w : ∀ s, (owner s).1.ledger = s.ledger) 
    (h : ReqHeader) (code : Nat) (p : List Byte) (s : State) : (takeRequest h code p owner s).ledger = s.ledger :=
  takeRequest_keeps (·.ledger) (fun _ _ _ => rfl) w h code p s
@[simp] theorem takeRequest_ledger_accounts {owner : Owner} (w : ∀ s, (owner s).1.ledger.accounts = s.ledger.accounts) 
    (h : ReqHeader) (code : Nat) (p : List Byte) (s : State) : (takeRequest h code p owner s).ledger.accounts = s.ledger.accounts :=
  takeRequest_keeps (·.ledger.accounts) (fun _ _ _ => rfl) w h code p s
@[simp] theorem takeRequest_ledger_holds {owner : Owner} (w : ∀ s, (owner s).1.ledger.holds = s.ledger.holds) 
    (h : ReqHeader) (code : Nat) (p : List Byte) (s : State) : (takeRequest h code p owner s).ledger.holds = s.ledger.holds :=
  takeRequest_keeps (·.ledger.holds) (fun _ _ _ => rfl) w h code p s
@[simp] theorem takeRequest_ledger_tariff {owner : Owner} (w : ∀ s, (owner s).1.ledger.tariff = s.ledger.tariff) 
    (h : ReqHeader) (code : Nat) (p : List Byte) (s : State) : (takeRequest h code p owner s).ledger.tariff = s.ledger.tariff :=
  takeRequest_keeps (·.ledger.tariff) (fun _ _ _ => rfl) w h code p s
@[simp] theorem takeRequest_ledger_rolloverDay {owner : Owner} (w : ∀ s, (owner s).1.ledger.rolloverDay = s.ledger.rolloverDay) 
    (h : ReqHeader) (code : Nat) (p : List Byte) (s : State) : (takeRequest h code p owner s).ledger.rolloverDay = s.ledger.rolloverDay :=
  takeRequest_keeps (·.ledger.rolloverDay) (fun _ _ _ => rfl) w h code p s
@[simp] theorem takeRequest_ledger_pass {owner : Owner} (w : ∀ s, (owner s).1.ledger.pass = s.ledger.pass) 
    (h : ReqHeader) (code : Nat) (p : List Byte) (s : State) : (takeRequest h code p owner s).ledger.pass = s.ledger.pass :=
  takeRequest_keeps (·.ledger.pass) (fun _ _ _ => rfl) w h code p s
@[simp] theorem takeRequest_link {owner : Owner} (w : ∀ s, (owner s).1.link = s.link) 
    (h : ReqHeader) (code : Nat) (p : List Byte) (s : State) : (takeRequest h code p owner s).link = s.link :=
  takeRequest_keeps (·.link) (fun _ _ _ => rfl) w h code p s
@[simp] theorem takeRequest_link_branches {owner : Owner} (w : ∀ s, (owner s).1.link.branches = s.link.branches) 
    (h : ReqHeader) (code : Nat) (p : List Byte) (s : State) : (takeRequest h code p owner s).link.branches = s.link.branches :=
  takeRequest_keeps (·.link.branches) (fun _ _ _ => rfl) w h code p s
@[simp] theorem takeRequest_link_stations {owner : Owner} (w : ∀ s, (owner s).1.link.stations = s.link.stations) 
    (h : ReqHeader) (code : Nat) (p : List Byte) (s : State) : (takeRequest h code p owner s).link.stations = s.link.stations :=
  takeRequest_keeps (·.link.stations) (fun _ _ _ => rfl) w h code p s
@[simp] theorem takeRequest_link_filter {owner : Owner} (w : ∀ s, (owner s).1.link.filter = s.link.filter) 
    (h : ReqHeader) (code : Nat) (p : List Byte) (s : State) : (takeRequest h code p owner s).link.filter = s.link.filter :=
  takeRequest_keeps (·.link.filter) (fun _ _ _ => rfl) w h code p s
@[simp] theorem takeRequest_link_waterShown {owner : Owner} (w : ∀ s, (owner s).1.link.waterShown = s.link.waterShown) 
    (h : ReqHeader) (code : Nat) (p : List Byte) (s : State) : (takeRequest h code p owner s).link.waterShown = s.link.waterShown :=
  takeRequest_keeps (·.link.waterShown) (fun _ _ _ => rfl) w h code p s
@[simp] theorem takeRequest_power {owner : Owner} (w : ∀ s, (owner s).1.power = s.power) 
    (h : ReqHeader) (code : Nat) (p : List Byte) (s : State) : (takeRequest h code p owner s).power = s.power :=
  takeRequest_keeps (·.power) (fun _ _ _ => rfl) w h code p s
@[simp] theorem takeRequest_power_outlets {owner : Owner} (w : ∀ s, (owner s).1.power.outlets = s.power.outlets) 
    (h : ReqHeader) (code : Nat) (p : List Byte) (s : State) : (takeRequest h code p owner s).power.outlets = s.power.outlets :=
  takeRequest_keeps (·.power.outlets) (fun _ _ _ => rfl) w h code p s
@[simp] theorem takeRequest_power_feeders {owner : Owner} (w : ∀ s, (owner s).1.power.feeders = s.power.feeders) 
    (h : ReqHeader) (code : Nat) (p : List Byte) (s : State) : (takeRequest h code p owner s).power.feeders = s.power.feeders :=
  takeRequest_keeps (·.power.feeders) (fun _ _ _ => rfl) w h code p s
@[simp] theorem takeRequest_power_starts {owner : Owner} (w : ∀ s, (owner s).1.power.starts = s.power.starts) 
    (h : ReqHeader) (code : Nat) (p : List Byte) (s : State) : (takeRequest h code p owner s).power.starts = s.power.starts :=
  takeRequest_keeps (·.power.starts) (fun _ _ _ => rfl) w h code p s
@[simp] theorem takeRequest_power_programs {owner : Owner} (w : ∀ s, (owner s).1.power.programs = s.power.programs) 
    (h : ReqHeader) (code : Nat) (p : List Byte) (s : State) : (takeRequest h code p owner s).power.programs = s.power.programs :=
  takeRequest_keeps (·.power.programs) (fun _ _ _ => rfl) w h code p s
@[simp] theorem takeRequest_water {owner : Owner} (w : ∀ s, (owner s).1.water = s.water) 
    (h : ReqHeader) (code : Nat) (p : List Byte) (s : State) : (takeRequest h code p owner s).water = s.water :=
  takeRequest_keeps (·.water) (fun _ _ _ => rfl) w h code p s
@[simp] theorem takeRequest_fuel {owner : Owner} (w : ∀ s, (owner s).1.fuel = s.fuel) 
    (h : ReqHeader) (code : Nat) (p : List Byte) (s : State) : (takeRequest h code p owner s).fuel = s.fuel :=
  takeRequest_keeps (·.fuel) (fun _ _ _ => rfl) w h code p s
@[simp] theorem takeRequest_fuel_tanks {owner : Owner} (w : ∀ s, (owner s).1.fuel.tanks = s.fuel.tanks) 
    (h : ReqHeader) (code : Nat) (p : List Byte) (s : State) : (takeRequest h code p owner s).fuel.tanks = s.fuel.tanks :=
  takeRequest_keeps (·.fuel.tanks) (fun _ _ _ => rfl) w h code p s
@[simp] theorem takeRequest_fuel_dispensers {owner : Owner} (w : ∀ s, (owner s).1.fuel.dispensers = s.fuel.dispensers) 
    (h : ReqHeader) (code : Nat) (p : List Byte) (s : State) : (takeRequest h code p owner s).fuel.dispensers = s.fuel.dispensers :=
  takeRequest_keeps (·.fuel.dispensers) (fun _ _ _ => rfl) w h code p s
@[simp] theorem takeRequest_fuel_journal {owner : Owner} (w : ∀ s, (owner s).1.fuel.journal = s.fuel.journal) 
    (h : ReqHeader) (code : Nat) (p : List Byte) (s : State) : (takeRequest h code p owner s).fuel.journal = s.fuel.journal :=
  takeRequest_keeps (·.fuel.journal) (fun _ _ _ => rfl) w h code p s
@[simp] theorem takeRequest_fuel_nextSale {owner : Owner} (w : ∀ s, (owner s).1.fuel.nextSale = s.fuel.nextSale) 
    (h : ReqHeader) (code : Nat) (p : List Byte) (s : State) : (takeRequest h code p owner s).fuel.nextSale = s.fuel.nextSale :=
  takeRequest_keeps (·.fuel.nextSale) (fun _ _ _ => rfl) w h code p s
@[simp] theorem takeRequest_access {owner : Owner} (w : ∀ s, (owner s).1.access = s.access) 
    (h : ReqHeader) (code : Nat) (p : List Byte) (s : State) : (takeRequest h code p owner s).access = s.access :=
  takeRequest_keeps (·.access) (fun _ _ _ => rfl) w h code p s
@[simp] theorem takeRequest_access_credentials {owner : Owner} (w : ∀ s, (owner s).1.access.credentials = s.access.credentials) 
    (h : ReqHeader) (code : Nat) (p : List Byte) (s : State) : (takeRequest h code p owner s).access.credentials = s.access.credentials :=
  takeRequest_keeps (·.access.credentials) (fun _ _ _ => rfl) w h code p s
@[simp] theorem takeRequest_access_gates {owner : Owner} (w : ∀ s, (owner s).1.access.gates = s.access.gates) 
    (h : ReqHeader) (code : Nat) (p : List Byte) (s : State) : (takeRequest h code p owner s).access.gates = s.access.gates :=
  takeRequest_keeps (·.access.gates) (fun _ _ _ => rfl) w h code p s
@[simp] theorem takeRequest_access_officeRelease {owner : Owner} (w : ∀ s, (owner s).1.access.officeRelease = s.access.officeRelease) 
    (h : ReqHeader) (code : Nat) (p : List Byte) (s : State) : (takeRequest h code p owner s).access.officeRelease = s.access.officeRelease :=
  takeRequest_keeps (·.access.officeRelease) (fun _ _ _ => rfl) w h code p s
@[simp] theorem takeRequest_access_log {owner : Owner} (w : ∀ s, (owner s).1.access.log = s.access.log) 
    (h : ReqHeader) (code : Nat) (p : List Byte) (s : State) : (takeRequest h code p owner s).access.log = s.access.log :=
  takeRequest_keeps (·.access.log) (fun _ _ _ => rfl) w h code p s
@[simp] theorem takeRequest_access_nextPosition {owner : Owner} (w : ∀ s, (owner s).1.access.nextPosition = s.access.nextPosition) 
    (h : ReqHeader) (code : Nat) (p : List Byte) (s : State) : (takeRequest h code p owner s).access.nextPosition = s.access.nextPosition :=
  takeRequest_keeps (·.access.nextPosition) (fun _ _ _ => rfl) w h code p s
@[simp] theorem takeRequest_access_nextSequence {owner : Owner} (w : ∀ s, (owner s).1.access.nextSequence = s.access.nextSequence) 
    (h : ReqHeader) (code : Nat) (p : List Byte) (s : State) : (takeRequest h code p owner s).access.nextSequence = s.access.nextSequence :=
  takeRequest_keeps (·.access.nextSequence) (fun _ _ _ => rfl) w h code p s
@[simp] theorem takeRequest_lines {owner : Owner} (w : ∀ s, (owner s).1.lines = s.lines) 
    (h : ReqHeader) (code : Nat) (p : List Byte) (s : State) : (takeRequest h code p owner s).lines = s.lines :=
  takeRequest_keeps (·.lines) (fun _ _ _ => rfl) w h code p s
@[simp] theorem takeRequest_lines_signals {owner : Owner} (w : ∀ s, (owner s).1.lines.signals = s.lines.signals) 
    (h : ReqHeader) (code : Nat) (p : List Byte) (s : State) : (takeRequest h code p owner s).lines.signals = s.lines.signals :=
  takeRequest_keeps (·.lines.signals) (fun _ _ _ => rfl) w h code p s
@[simp] theorem takeRequest_lines_fire {owner : Owner} (w : ∀ s, (owner s).1.lines.fire = s.lines.fire) 
    (h : ReqHeader) (code : Nat) (p : List Byte) (s : State) : (takeRequest h code p owner s).lines.fire = s.lines.fire :=
  takeRequest_keeps (·.lines.fire) (fun _ _ _ => rfl) w h code p s
@[simp] theorem takeRequest_lines_estop {owner : Owner} (w : ∀ s, (owner s).1.lines.estop = s.lines.estop) 
    (h : ReqHeader) (code : Nat) (p : List Byte) (s : State) : (takeRequest h code p owner s).lines.estop = s.lines.estop :=
  takeRequest_keeps (·.lines.estop) (fun _ _ _ => rfl) w h code p s
@[simp] theorem takeRequest_room {owner : Owner} (w : ∀ s, (owner s).1.room = s.room) 
    (h : ReqHeader) (code : Nat) (p : List Byte) (s : State) : (takeRequest h code p owner s).room = s.room :=
  takeRequest_keeps (·.room) (fun _ _ _ => rfl) w h code p s
@[simp] theorem takeRequest_now {owner : Owner} (w : ∀ s, (owner s).1.now = s.now) 
    (h : ReqHeader) (code : Nat) (p : List Byte) (s : State) : (takeRequest h code p owner s).now = s.now :=
  takeRequest_keeps (·.now) (fun _ _ _ => rfl) w h code p s
@[simp] theorem takeRequest_stamp {owner : Owner} (w : ∀ s, (owner s).1.stamp = s.stamp) 
    (h : ReqHeader) (code : Nat) (p : List Byte) (s : State) : (takeRequest h code p owner s).stamp = s.stamp :=
  takeRequest_keeps (·.stamp) (fun _ _ _ => rfl) w h code p s
@[simp] theorem takeRequest_get_arrivals {owner : Owner} (w : ∀ s, (owner s).1.arrivals = s.arrivals) 
    (h : ReqHeader) (code : Nat) (p : List Byte) (s : State) : (takeRequest h code p owner s).arrivals = s.arrivals :=
  takeRequest_keeps (·.arrivals) (fun _ _ _ => rfl) w h code p s
@[simp] theorem setStay_room (s : State) (i : StayId) (x : Stay) : (s.setStay i x).room = s.room := rfl
@[simp] theorem setBerth_room (s : State) (i : BerthId) (x : Berth) : (s.setBerth i x).room = s.room := rfl
@[simp] theorem setPontoon_room (s : State) (i : PontoonId) (x : PontoonSettings) : (s.setPontoon i x).room = s.room := rfl
@[simp] theorem setArrivals_room (s : State) (l : List StayId) : (s.setArrivals l).room = s.room := rfl
@[simp] theorem setEngine_room (s : State) (e : Engine) : (s.setEngine e).room = s.room := rfl
@[simp] theorem setAccount_room (s : State) (i : AccountId) (x : Account) : (s.setAccount i x).room = s.room := rfl
@[simp] theorem setHoldSlot_room (s : State) (i : HoldSlot) (x : Option HoldRecord) : (s.setHoldSlot i x).room = s.room := rfl
@[simp] theorem setBranch_room (s : State) (i : BranchId) (x : Branch) : (s.setBranch i x).room = s.room := rfl
@[simp] theorem setStation_room (s : State) (i : StationId) (x : Station) : (s.setStation i x).room = s.room := rfl
@[simp] theorem setOutlet_room (s : State) (i : OutletId) (x : Outlet) : (s.setOutlet i x).room = s.room := rfl
@[simp] theorem setFeeder_room (s : State) (i : PontoonId) (x : Feeder) : (s.setFeeder i x).room = s.room := rfl
@[simp] theorem setStart_room (s : State) (i : PontoonId) (x : StartRecord) : (s.setStart i x).room = s.room := rfl
@[simp] theorem setTap_room (s : State) (i : TapId) (x : Tap) : (s.setTap i x).room = s.room := rfl
@[simp] theorem setTank_room (s : State) (i : GradeId) (x : Tank) : (s.setTank i x).room = s.room := rfl
@[simp] theorem setDispenser_room (s : State) (i : DispenserId) (x : Dispenser) : (s.setDispenser i x).room = s.room := rfl
@[simp] theorem setGate_room (s : State) (i : PontoonId) (x : Gate) : (s.setGate i x).room = s.room := rfl
@[simp] theorem setCredential_room (s : State) (i : CredentialSlot) (x : Option Credential) : (s.setCredential i x).room = s.room := rfl
@[simp] theorem setSignal_room (s : State) (i : Fin 2) (x : Signal) : (s.setSignal i x).room = s.room := rfl

/-! ### Ops -/

@[simp] theorem advanceTo_frame (s : State) (e : Nat) :
    let t := (State.advanceTo s e)
    t.pending = s.pending ∧ t.part.condition = s.part.condition ∧ t.part.retentionAgrees = s.part.retentionAgrees ∧
    t.part.setupStrapLow = s.part.setupStrapLow ∧ t.part.resetLow = s.part.resetLow ∧ t.part.draws = s.part.draws ∧ t.trunk = s.trunk ∧
    t.settings = s.settings ∧ t.clock = s.clock ∧ t.register = s.register ∧ t.engine = s.engine ∧ t.ledger = s.ledger ∧
    t.link = s.link ∧ t.power = s.power ∧ t.water = s.water ∧ t.fuel = s.fuel ∧ t.access = s.access ∧ t.lines = s.lines ∧
    t.room = s.room := by dsimp only; unfold State.advanceTo; (repeat' split) <;> simp [State.room, State.stamp, State.now, State.arrivals, State.stay, State.berth, State.pontoon, State.account, State.holdSlot, State.branch, State.station, State.outlet, State.feeder, State.start, State.tap, State.tank, State.dispenser, State.gate, State.credential, State.signal]

@[simp] theorem raise_frame (n : Note) (s : State) :
    let t := (raise n s)
    t.pending = s.pending ∧ t.part = s.part ∧ t.trunk.node = s.trunk.node ∧ t.trunk.owed = s.trunk.owed ∧
    t.trunk.kept = s.trunk.kept ∧ t.trunk.cursor = s.trunk.cursor ∧ t.trunk.mode = s.trunk.mode ∧
    t.trunk.cause = s.trunk.cause ∧ t.trunk.commandStart = s.trunk.commandStart ∧ t.settings = s.settings ∧
    t.clock = s.clock ∧ t.register = s.register ∧ t.engine = s.engine ∧ t.ledger = s.ledger ∧ t.link = s.link ∧
    t.power = s.power ∧ t.water = s.water ∧ t.fuel = s.fuel ∧ t.access = s.access ∧ t.lines = s.lines ∧ t.room = s.room := by
  dsimp only
  unfold raise
  split
  · simp_all [State.room, State.stamp, State.now, State.arrivals, State.stay, State.berth, State.pontoon, State.account, State.holdSlot, State.branch, State.station, State.outlet, State.feeder, State.start, State.tap, State.tank, State.dispenser, State.gate, State.credential, State.signal]
  · simp_all [State.room, State.stamp, State.now, State.arrivals, State.stay, State.berth, State.pontoon, State.account, State.holdSlot, State.branch, State.station, State.outlet, State.feeder, State.start, State.tap, State.tank, State.dispenser, State.gate, State.credential, State.signal]
    omega

@[simp] theorem noteClockUse_frame (s : State) :
    let t := (noteClockUse s)
    t.pending = s.pending ∧ t.part = s.part ∧ t.trunk.node = s.trunk.node ∧ t.trunk.owed = s.trunk.owed ∧
    t.trunk.kept = s.trunk.kept ∧ t.trunk.cursor = s.trunk.cursor ∧ t.trunk.mode = s.trunk.mode ∧
    t.trunk.cause = s.trunk.cause ∧ t.trunk.commandStart = s.trunk.commandStart ∧ t.settings = s.settings ∧
    t.clock.value = s.clock.value ∧ t.clock.isSet = s.clock.isSet ∧ t.clock.rollover = s.clock.rollover ∧
    t.clock.nextAdvance = s.clock.nextAdvance ∧ t.register = s.register ∧ t.engine = s.engine ∧ t.ledger = s.ledger ∧
    t.link = s.link ∧ t.power = s.power ∧ t.water = s.water ∧ t.fuel = s.fuel ∧ t.access = s.access ∧ t.lines = s.lines ∧
    t.room = s.room := by dsimp only; unfold noteClockUse; (repeat' split) <;> simp <;> simp [State.room, State.stamp, State.now, State.arrivals, State.stay, State.berth, State.pontoon, State.account, State.holdSlot, State.branch, State.station, State.outlet, State.feeder, State.start, State.tap, State.tank, State.dispenser, State.gate, State.credential, State.signal]

@[simp] theorem modifyImage_frame (st : StationId) (f : Image → Image) (s : State) :
    let t := (modifyImage st f s)
    t.pending = s.pending ∧ t.part = s.part ∧ t.trunk = s.trunk ∧ t.settings = s.settings ∧ t.clock = s.clock ∧
    t.register = s.register ∧ t.engine = s.engine ∧ t.ledger = s.ledger ∧ t.link.branches = s.link.branches ∧
    t.link.filter = s.link.filter ∧ t.link.waterShown = s.link.waterShown ∧ t.power = s.power ∧ t.water = s.water ∧
    t.fuel = s.fuel ∧ t.access = s.access ∧ t.lines = s.lines ∧ t.room = s.room := by dsimp only; unfold modifyImage; (try dsimp only); (repeat' split) <;> simp

@[simp] theorem showPower_frame (st : StationId) (code : Nat) (s : State) :
    let t := (showPower st code s)
    t.pending = s.pending ∧ t.part = s.part ∧ t.trunk = s.trunk ∧ t.settings = s.settings ∧ t.clock = s.clock ∧
    t.register = s.register ∧ t.engine = s.engine ∧ t.ledger = s.ledger ∧ t.link.branches = s.link.branches ∧
    t.link.filter = s.link.filter ∧ t.link.waterShown = s.link.waterShown ∧ t.power = s.power ∧ t.water = s.water ∧
    t.fuel = s.fuel ∧ t.access = s.access ∧ t.lines = s.lines ∧ t.room = s.room := by dsimp only; unfold showPower; (try dsimp only); (repeat' split) <;> simp

@[simp] theorem showWater_frame (st : StationId) (code : Nat) (s : State) :
    let t := (showWater st code s)
    t.pending = s.pending ∧ t.part = s.part ∧ t.trunk = s.trunk ∧ t.settings = s.settings ∧ t.clock = s.clock ∧
    t.register = s.register ∧ t.engine = s.engine ∧ t.ledger = s.ledger ∧ t.link.branches = s.link.branches ∧
    t.link.filter = s.link.filter ∧ t.power = s.power ∧ t.water = s.water ∧ t.fuel = s.fuel ∧ t.access = s.access ∧
    t.lines = s.lines ∧ t.room = s.room := by dsimp only; unfold showWater; (repeat' split) <;> simp [State.room, State.stamp, State.now, State.arrivals, State.stay, State.berth, State.pontoon, State.account, State.holdSlot, State.branch, State.station, State.outlet, State.feeder, State.start, State.tap, State.tank, State.dispenser, State.gate, State.credential, State.signal]

@[simp] theorem attend_frame (st : StationId) (s : State) :
    let t := (attend st s)
    t.pending = s.pending ∧ t.part = s.part ∧ t.trunk = s.trunk ∧ t.settings = s.settings ∧ t.clock = s.clock ∧
    t.register = s.register ∧ t.engine = s.engine ∧ t.ledger = s.ledger ∧ t.link.stations = s.link.stations ∧
    t.link.filter = s.link.filter ∧ t.link.waterShown = s.link.waterShown ∧ t.power = s.power ∧ t.water = s.water ∧
    t.fuel = s.fuel ∧ t.access = s.access ∧ t.lines = s.lines ∧ t.room = s.room := by dsimp only; unfold attend; (try dsimp only); (repeat' split) <;> simp

@[simp] theorem dismissFrom_frame (b : BranchId) (st : StationId) (s : State) :
    let t := (dismissFrom b st s)
    t.pending = s.pending ∧ t.part = s.part ∧ t.trunk = s.trunk ∧ t.settings = s.settings ∧ t.clock = s.clock ∧
    t.register = s.register ∧ t.engine = s.engine ∧ t.ledger = s.ledger ∧ t.link.stations = s.link.stations ∧
    t.link.filter = s.link.filter ∧ t.link.waterShown = s.link.waterShown ∧ t.power = s.power ∧ t.water = s.water ∧
    t.fuel = s.fuel ∧ t.access = s.access ∧ t.lines = s.lines ∧ t.room = s.room := by dsimp only; unfold dismissFrom; (try dsimp only); (repeat' split) <;> simp

@[simp] theorem dismiss_frame (st : StationId) (s : State) :
    let t := (dismiss st s)
    t.pending = s.pending ∧ t.part = s.part ∧ t.trunk = s.trunk ∧ t.settings = s.settings ∧ t.clock = s.clock ∧
    t.register = s.register ∧ t.engine = s.engine ∧ t.ledger = s.ledger ∧ t.link.stations = s.link.stations ∧
    t.link.filter = s.link.filter ∧ t.link.waterShown = s.link.waterShown ∧ t.power = s.power ∧ t.water = s.water ∧
    t.fuel = s.fuel ∧ t.access = s.access ∧ t.lines = s.lines ∧ t.room = s.room := by dsimp only; unfold dismiss; (try dsimp only); (repeat' split) <;> simp

@[simp] theorem refreshAttention_frame (st : StationId) (s : State) :
    let t := (refreshAttention st s)
    t.pending = s.pending ∧ t.part = s.part ∧ t.trunk = s.trunk ∧ t.settings = s.settings ∧ t.clock = s.clock ∧
    t.register = s.register ∧ t.engine = s.engine ∧ t.ledger = s.ledger ∧ t.link.stations = s.link.stations ∧
    t.link.filter = s.link.filter ∧ t.link.waterShown = s.link.waterShown ∧ t.power = s.power ∧ t.water = s.water ∧
    t.fuel = s.fuel ∧ t.access = s.access ∧ t.lines = s.lines ∧ t.room = s.room := by dsimp only; unfold refreshAttention; (try dsimp only); (repeat' split) <;> simp

@[simp] theorem refreshNamed_frame (st : Option StationId) (s : State) :
    let t := (refreshNamed st s)
    t.pending = s.pending ∧ t.part = s.part ∧ t.trunk = s.trunk ∧ t.settings = s.settings ∧ t.clock = s.clock ∧
    t.register = s.register ∧ t.engine = s.engine ∧ t.ledger = s.ledger ∧ t.link.stations = s.link.stations ∧
    t.link.filter = s.link.filter ∧ t.link.waterShown = s.link.waterShown ∧ t.power = s.power ∧ t.water = s.water ∧
    t.fuel = s.fuel ∧ t.access = s.access ∧ t.lines = s.lines ∧ t.room = s.room := by dsimp only; unfold refreshNamed; (try dsimp only); (repeat' split) <;> simp

@[simp] theorem draw_frame (s : State) :
    let t := (draw s).2
    t.pending = s.pending ∧ t.part.condition = s.part.condition ∧ t.part.timeBase = s.part.timeBase ∧
    t.part.retentionAgrees = s.part.retentionAgrees ∧ t.part.setupStrapLow = s.part.setupStrapLow ∧ t.part.resetLow = s.part.resetLow ∧ t.trunk = s.trunk ∧
    t.settings = s.settings ∧ t.clock = s.clock ∧ t.register = s.register ∧ t.engine = s.engine ∧ t.ledger = s.ledger ∧
    t.link = s.link ∧ t.power = s.power ∧ t.water = s.water ∧ t.fuel = s.fuel ∧ t.access = s.access ∧ t.lines = s.lines ∧
    t.room = s.room := by dsimp only; unfold draw; (repeat' split) <;> simp [State.room, State.stamp, State.now, State.arrivals, State.stay, State.berth, State.pontoon, State.account, State.holdSlot, State.branch, State.station, State.outlet, State.feeder, State.start, State.tap, State.tank, State.dispenser, State.gate, State.credential, State.signal]

/-! ### Flags -/

@[simp] theorem evaluateExhausted_frame (i : AccountId) (s : State) :
    let t := (evaluateExhausted i s)
    t.pending = s.pending ∧ t.part = s.part ∧ t.trunk.node = s.trunk.node ∧ t.trunk.owed = s.trunk.owed ∧
    t.trunk.kept = s.trunk.kept ∧ t.trunk.cursor = s.trunk.cursor ∧ t.trunk.mode = s.trunk.mode ∧
    t.trunk.cause = s.trunk.cause ∧ t.trunk.commandStart = s.trunk.commandStart ∧ t.settings = s.settings ∧
    t.clock = s.clock ∧ t.register = s.register ∧ t.engine = s.engine ∧ t.ledger.holds = s.ledger.holds ∧
    t.ledger.tariff = s.ledger.tariff ∧ t.ledger.rolloverDay = s.ledger.rolloverDay ∧ t.ledger.pass = s.ledger.pass ∧
    t.link = s.link ∧ t.power = s.power ∧ t.water = s.water ∧ t.fuel = s.fuel ∧ t.access = s.access ∧ t.lines = s.lines ∧
    t.room = s.room := by dsimp only; unfold evaluateExhausted; (try dsimp only); (repeat' split) <;> simp

@[simp] theorem evaluateLow_frame (i : AccountId) (s : State) :
    let t := (evaluateLow i s)
    t.pending = s.pending ∧ t.part = s.part ∧ t.trunk.node = s.trunk.node ∧ t.trunk.owed = s.trunk.owed ∧
    t.trunk.kept = s.trunk.kept ∧ t.trunk.cursor = s.trunk.cursor ∧ t.trunk.mode = s.trunk.mode ∧
    t.trunk.cause = s.trunk.cause ∧ t.trunk.commandStart = s.trunk.commandStart ∧ t.settings = s.settings ∧
    t.clock = s.clock ∧ t.register = s.register ∧ t.engine = s.engine ∧ t.ledger.holds = s.ledger.holds ∧
    t.ledger.tariff = s.ledger.tariff ∧ t.ledger.rolloverDay = s.ledger.rolloverDay ∧ t.ledger.pass = s.ledger.pass ∧
    t.link = s.link ∧ t.power = s.power ∧ t.water = s.water ∧ t.fuel = s.fuel ∧ t.access = s.access ∧ t.lines = s.lines ∧
    t.room = s.room := by dsimp only; unfold evaluateLow; (try dsimp only); (repeat' split) <;> simp

@[simp] theorem evaluateFlags_frame (i : AccountId) (s : State) :
    let t := (evaluateFlags i s)
    t.pending = s.pending ∧ t.part = s.part ∧ t.trunk.node = s.trunk.node ∧ t.trunk.owed = s.trunk.owed ∧
    t.trunk.kept = s.trunk.kept ∧ t.trunk.cursor = s.trunk.cursor ∧ t.trunk.mode = s.trunk.mode ∧
    t.trunk.cause = s.trunk.cause ∧ t.trunk.commandStart = s.trunk.commandStart ∧ t.settings = s.settings ∧
    t.clock = s.clock ∧ t.register = s.register ∧ t.engine = s.engine ∧ t.ledger.holds = s.ledger.holds ∧
    t.ledger.tariff = s.ledger.tariff ∧ t.ledger.rolloverDay = s.ledger.rolloverDay ∧ t.ledger.pass = s.ledger.pass ∧
    t.link = s.link ∧ t.power = s.power ∧ t.water = s.water ∧ t.fuel = s.fuel ∧ t.access = s.access ∧ t.lines = s.lines ∧
    t.room = s.room := by dsimp only; unfold evaluateFlags; (try dsimp only); (repeat' split) <;> simp

@[simp] theorem noteSaturation_frame (i : AccountId) (high : Bool) (lost : Nat) (s : State) :
    let t := (noteSaturation i high lost s)
    t.pending = s.pending ∧ t.part = s.part ∧ t.trunk.node = s.trunk.node ∧ t.trunk.owed = s.trunk.owed ∧
    t.trunk.kept = s.trunk.kept ∧ t.trunk.cursor = s.trunk.cursor ∧ t.trunk.mode = s.trunk.mode ∧
    t.trunk.cause = s.trunk.cause ∧ t.trunk.commandStart = s.trunk.commandStart ∧ t.settings = s.settings ∧
    t.clock = s.clock ∧ t.register = s.register ∧ t.engine = s.engine ∧ t.ledger.holds = s.ledger.holds ∧
    t.ledger.tariff = s.ledger.tariff ∧ t.ledger.rolloverDay = s.ledger.rolloverDay ∧ t.ledger.pass = s.ledger.pass ∧
    t.link = s.link ∧ t.power = s.power ∧ t.water = s.water ∧ t.fuel = s.fuel ∧ t.access = s.access ∧ t.lines = s.lines ∧
    t.room = s.room := by dsimp only; unfold noteSaturation; (try dsimp only); (repeat' split) <;> simp

@[simp] theorem lowerBalance_frame (i : AccountId) (c : Nat) (s : State) :
    let t := (lowerBalance i c s).2
    t.pending = s.pending ∧ t.part = s.part ∧ t.trunk.node = s.trunk.node ∧ t.trunk.owed = s.trunk.owed ∧
    t.trunk.kept = s.trunk.kept ∧ t.trunk.cursor = s.trunk.cursor ∧ t.trunk.mode = s.trunk.mode ∧
    t.trunk.cause = s.trunk.cause ∧ t.trunk.commandStart = s.trunk.commandStart ∧ t.settings = s.settings ∧
    t.clock = s.clock ∧ t.register = s.register ∧ t.engine = s.engine ∧ t.ledger.holds = s.ledger.holds ∧
    t.ledger.tariff = s.ledger.tariff ∧ t.ledger.rolloverDay = s.ledger.rolloverDay ∧ t.ledger.pass = s.ledger.pass ∧
    t.link = s.link ∧ t.power = s.power ∧ t.water = s.water ∧ t.fuel = s.fuel ∧ t.access = s.access ∧ t.lines = s.lines ∧
    t.room = s.room := by dsimp only; unfold lowerBalance; (try dsimp only); (repeat' split) <;> simp

@[simp] theorem raiseBalance_frame (i : AccountId) (c : Nat) (s : State) :
    let t := (raiseBalance i c s).2
    t.pending = s.pending ∧ t.part = s.part ∧ t.trunk.node = s.trunk.node ∧ t.trunk.owed = s.trunk.owed ∧
    t.trunk.kept = s.trunk.kept ∧ t.trunk.cursor = s.trunk.cursor ∧ t.trunk.mode = s.trunk.mode ∧
    t.trunk.cause = s.trunk.cause ∧ t.trunk.commandStart = s.trunk.commandStart ∧ t.settings = s.settings ∧
    t.clock = s.clock ∧ t.register = s.register ∧ t.engine = s.engine ∧ t.ledger.holds = s.ledger.holds ∧
    t.ledger.tariff = s.ledger.tariff ∧ t.ledger.rolloverDay = s.ledger.rolloverDay ∧ t.ledger.pass = s.ledger.pass ∧
    t.link = s.link ∧ t.power = s.power ∧ t.water = s.water ∧ t.fuel = s.fuel ∧ t.access = s.access ∧ t.lines = s.lines ∧
    t.room = s.room := by dsimp only; unfold raiseBalance; (try dsimp only); (repeat' split) <;> simp

@[simp] theorem evaluateLowStock_frame (g : GradeId) (s : State) :
    let t := (evaluateLowStock g s)
    t.pending = s.pending ∧ t.part = s.part ∧ t.trunk.node = s.trunk.node ∧ t.trunk.owed = s.trunk.owed ∧
    t.trunk.kept = s.trunk.kept ∧ t.trunk.cursor = s.trunk.cursor ∧ t.trunk.mode = s.trunk.mode ∧
    t.trunk.cause = s.trunk.cause ∧ t.trunk.commandStart = s.trunk.commandStart ∧ t.settings = s.settings ∧
    t.clock = s.clock ∧ t.register = s.register ∧ t.engine = s.engine ∧ t.ledger = s.ledger ∧ t.link = s.link ∧
    t.power = s.power ∧ t.water = s.water ∧ t.fuel.dispensers = s.fuel.dispensers ∧ t.fuel.journal = s.fuel.journal ∧
    t.fuel.nextSale = s.fuel.nextSale ∧ t.access = s.access ∧ t.lines = s.lines ∧ t.room = s.room := by dsimp only; unfold evaluateLowStock; (try dsimp only); (repeat' split) <;> simp

@[simp] theorem lowerStock_frame (g : GradeId) (volume : Nat) (s : State) :
    let t := (lowerStock g volume s)
    t.pending = s.pending ∧ t.part = s.part ∧ t.trunk.node = s.trunk.node ∧ t.trunk.owed = s.trunk.owed ∧
    t.trunk.kept = s.trunk.kept ∧ t.trunk.cursor = s.trunk.cursor ∧ t.trunk.mode = s.trunk.mode ∧
    t.trunk.cause = s.trunk.cause ∧ t.trunk.commandStart = s.trunk.commandStart ∧ t.settings = s.settings ∧
    t.clock = s.clock ∧ t.register = s.register ∧ t.engine = s.engine ∧ t.ledger = s.ledger ∧ t.link = s.link ∧
    t.power = s.power ∧ t.water = s.water ∧ t.fuel.dispensers = s.fuel.dispensers ∧ t.fuel.journal = s.fuel.journal ∧
    t.fuel.nextSale = s.fuel.nextSale ∧ t.access = s.access ∧ t.lines = s.lines ∧ t.room = s.room := by dsimp only; unfold lowerStock; (try dsimp only); (repeat' split) <;> simp

@[simp] theorem followSignal_frame (i : Fin 2) (sources : BitVec 7) (s : State) :
    let t := (followSignal i sources s)
    t.pending = s.pending ∧ t.part = s.part ∧ t.trunk = s.trunk ∧ t.settings = s.settings ∧ t.clock = s.clock ∧
    t.register = s.register ∧ t.engine = s.engine ∧ t.ledger = s.ledger ∧ t.link = s.link ∧ t.power = s.power ∧
    t.water = s.water ∧ t.fuel = s.fuel ∧ t.access = s.access ∧ t.lines.fire = s.lines.fire ∧
    t.lines.estop = s.lines.estop ∧ t.room = s.room := by dsimp only; unfold followSignal; (try dsimp only); (repeat' split) <;> simp

@[simp] theorem followSignals_frame (s : State) :
    let t := (followSignals s)
    t.pending = s.pending ∧ t.part = s.part ∧ t.trunk = s.trunk ∧ t.settings = s.settings ∧ t.clock = s.clock ∧
    t.register = s.register ∧ t.engine = s.engine ∧ t.ledger = s.ledger ∧ t.link = s.link ∧ t.power = s.power ∧
    t.water = s.water ∧ t.fuel = s.fuel ∧ t.access = s.access ∧ t.lines.fire = s.lines.fire ∧
    t.lines.estop = s.lines.estop ∧ t.room = s.room := by dsimp only; unfold followSignals; (try dsimp only); (repeat' split) <;> simp

@[simp] theorem finish_frame (s : State) :
    let t := (finish s)
    t.pending = s.pending ∧ t.part = s.part ∧ t.trunk = s.trunk ∧ t.settings = s.settings ∧ t.clock = s.clock ∧
    t.register = s.register ∧ t.engine = s.engine ∧ t.ledger = s.ledger ∧ t.link.branches = s.link.branches ∧
    t.link.stations = s.link.stations ∧ t.link.filter = s.link.filter ∧ t.power = s.power ∧ t.water = s.water ∧
    t.fuel = s.fuel ∧ t.access = s.access ∧ t.lines.fire = s.lines.fire ∧ t.lines.estop = s.lines.estop ∧ t.room = s.room := by dsimp only; unfold finish; (repeat' split) <;> simp [State.room, State.stamp, State.now, State.arrivals, State.stay, State.berth, State.pontoon, State.account, State.holdSlot, State.branch, State.station, State.outlet, State.feeder, State.start, State.tap, State.tank, State.dispenser, State.gate, State.credential, State.signal]

/-! ### Power -/

@[simp] theorem showOutlet_frame (x : Outlet) (s : State) :
    let t := (showOutlet x s)
    t.pending = s.pending ∧ t.part = s.part ∧ t.trunk = s.trunk ∧ t.settings = s.settings ∧ t.clock = s.clock ∧
    t.register = s.register ∧ t.engine = s.engine ∧ t.ledger = s.ledger ∧ t.link.branches = s.link.branches ∧
    t.link.filter = s.link.filter ∧ t.link.waterShown = s.link.waterShown ∧ t.power = s.power ∧ t.water = s.water ∧
    t.fuel = s.fuel ∧ t.access = s.access ∧ t.lines = s.lines ∧ t.room = s.room := by dsimp only; unfold showOutlet; (try dsimp only); (repeat' split) <;> simp

@[simp] theorem putOutlet_frame (o : OutletId) (x : Outlet) (s : State) :
    let t := (putOutlet o x s)
    t.pending = s.pending ∧ t.part = s.part ∧ t.trunk = s.trunk ∧ t.settings = s.settings ∧ t.clock = s.clock ∧
    t.register = s.register ∧ t.engine = s.engine ∧ t.ledger = s.ledger ∧ t.link.branches = s.link.branches ∧
    t.link.filter = s.link.filter ∧ t.link.waterShown = s.link.waterShown ∧ t.power.feeders = s.power.feeders ∧
    t.power.starts = s.power.starts ∧ t.power.programs = s.power.programs ∧ t.water = s.water ∧ t.fuel = s.fuel ∧
    t.access = s.access ∧ t.lines = s.lines ∧ t.room = s.room := by dsimp only; unfold putOutlet; (try dsimp only); (repeat' split) <;> simp

@[simp] theorem leaveStart_frame (o : OutletId) (p : PontoonId) (s : State) :
    let t := (leaveStart o p s)
    t.pending = s.pending ∧ t.part = s.part ∧ t.trunk = s.trunk ∧ t.settings = s.settings ∧ t.clock = s.clock ∧
    t.register = s.register ∧ t.engine = s.engine ∧ t.ledger = s.ledger ∧ t.link = s.link ∧
    t.power.outlets = s.power.outlets ∧ t.power.feeders = s.power.feeders ∧ t.power.programs = s.power.programs ∧
    t.water = s.water ∧ t.fuel = s.fuel ∧ t.access = s.access ∧ t.lines = s.lines ∧ t.room = s.room := by dsimp only; unfold leaveStart; (try dsimp only); (repeat' split) <;> simp

@[simp] theorem leaveStarts_frame (o : OutletId) (s : State) :
    let t := (leaveStarts o s)
    t.pending = s.pending ∧ t.part = s.part ∧ t.trunk = s.trunk ∧ t.settings = s.settings ∧ t.clock = s.clock ∧
    t.register = s.register ∧ t.engine = s.engine ∧ t.ledger = s.ledger ∧ t.link = s.link ∧
    t.power.outlets = s.power.outlets ∧ t.power.feeders = s.power.feeders ∧ t.power.programs = s.power.programs ∧
    t.water = s.water ∧ t.fuel = s.fuel ∧ t.access = s.access ∧ t.lines = s.lines ∧ t.room = s.room := by dsimp only; unfold leaveStarts; (try dsimp only); (repeat' split) <;> simp

@[simp] theorem applyPermit_frame (o : OutletId) (s : State) :
    let t := (applyPermit o s)
    t.pending = s.pending ∧ t.part = s.part ∧ t.trunk = s.trunk ∧ t.settings = s.settings ∧ t.clock = s.clock ∧
    t.register = s.register ∧ t.engine = s.engine ∧ t.ledger = s.ledger ∧ t.link.branches = s.link.branches ∧
    t.link.filter = s.link.filter ∧ t.link.waterShown = s.link.waterShown ∧ t.power.feeders = s.power.feeders ∧
    t.power.programs = s.power.programs ∧ t.water = s.water ∧ t.fuel = s.fuel ∧ t.access = s.access ∧ t.lines = s.lines ∧
    t.room = s.room := by dsimp only; unfold applyPermit; (try dsimp only); (repeat' split) <;> simp

@[simp] theorem reevaluate_frame (o : OutletId) (s : State) :
    let t := (reevaluate o s)
    t.pending = s.pending ∧ t.part = s.part ∧ t.trunk = s.trunk ∧ t.settings = s.settings ∧ t.clock = s.clock ∧
    t.register = s.register ∧ t.engine = s.engine ∧ t.ledger = s.ledger ∧ t.link.branches = s.link.branches ∧
    t.link.filter = s.link.filter ∧ t.link.waterShown = s.link.waterShown ∧ t.power.feeders = s.power.feeders ∧
    t.power.programs = s.power.programs ∧ t.water = s.water ∧ t.fuel = s.fuel ∧ t.access = s.access ∧ t.lines = s.lines ∧
    t.room = s.room := by dsimp only; unfold reevaluate; (try dsimp only); (repeat' split) <;> simp

@[simp] theorem grant_frame (p : PontoonId) (o : OutletId) (t : StayId) (g : Nat) (s : State) :
    let t' := (grant p o t g s)
    t'.pending = s.pending ∧ t'.part = s.part ∧ t'.trunk = s.trunk ∧ t'.settings = s.settings ∧ t'.clock = s.clock ∧
    t'.register = s.register ∧ t'.engine = s.engine ∧ t'.ledger = s.ledger ∧ t'.link.filter = s.link.filter ∧
    t'.link.waterShown = s.link.waterShown ∧ t'.power.feeders = s.power.feeders ∧ t'.power.programs = s.power.programs ∧
    t'.water = s.water ∧ t'.fuel = s.fuel ∧ t'.access = s.access ∧ t'.lines = s.lines ∧ t'.room = s.room := by dsimp only; unfold grant; (try dsimp only); (repeat' split) <;> simp

@[simp] theorem considerHeads_frame (v0 : Nat) (v1 : PontoonId) (s : State) :
    let t := (considerHeads v0 v1 s)
    t.pending = s.pending ∧ t.part = s.part ∧ t.trunk = s.trunk ∧ t.settings = s.settings ∧ t.clock = s.clock ∧
    t.register = s.register ∧ t.engine = s.engine ∧ t.ledger = s.ledger ∧ t.link.filter = s.link.filter ∧
    t.link.waterShown = s.link.waterShown ∧ t.power.feeders = s.power.feeders ∧ t.power.programs = s.power.programs ∧
    t.water = s.water ∧ t.fuel = s.fuel ∧ t.access = s.access ∧ t.lines = s.lines ∧ t.room = s.room := by
  dsimp only
  induction v0 generalizing v1 s with
  | zero => simp [considerHeads]
  | succ n ih =>
    unfold considerHeads
    simp only []
    (repeat' split) <;> simp [ih]

@[simp] theorem consider_frame (p : PontoonId) (s : State) :
    let t := (consider p s)
    t.pending = s.pending ∧ t.part = s.part ∧ t.trunk = s.trunk ∧ t.settings = s.settings ∧ t.clock = s.clock ∧
    t.register = s.register ∧ t.engine = s.engine ∧ t.ledger = s.ledger ∧ t.link.filter = s.link.filter ∧
    t.link.waterShown = s.link.waterShown ∧ t.power.feeders = s.power.feeders ∧ t.power.programs = s.power.programs ∧
    t.water = s.water ∧ t.fuel = s.fuel ∧ t.access = s.access ∧ t.lines = s.lines ∧ t.room = s.room := by dsimp only; unfold consider; (try dsimp only); (repeat' split) <;> simp

@[simp] theorem reconsider_frame (old : State) (s : State) :
    let t := (reconsider old s)
    t.pending = s.pending ∧ t.part = s.part ∧ t.trunk = s.trunk ∧ t.settings = s.settings ∧ t.clock = s.clock ∧
    t.register = s.register ∧ t.engine = s.engine ∧ t.ledger = s.ledger ∧ t.link.filter = s.link.filter ∧
    t.link.waterShown = s.link.waterShown ∧ t.power.feeders = s.power.feeders ∧ t.power.programs = s.power.programs ∧
    t.water = s.water ∧ t.fuel = s.fuel ∧ t.access = s.access ∧ t.lines = s.lines ∧ t.room = s.room := by dsimp only; unfold reconsider; (try dsimp only); (repeat' split) <;> simp

@[simp] theorem upgradeOne_frame (p : PontoonId) (o : OutletId) (s : State) :
    let t := (upgradeOne p o s)
    t.pending = s.pending ∧ t.part = s.part ∧ t.trunk = s.trunk ∧ t.settings = s.settings ∧ t.clock = s.clock ∧
    t.register = s.register ∧ t.engine = s.engine ∧ t.ledger = s.ledger ∧ t.link.branches = s.link.branches ∧
    t.link.filter = s.link.filter ∧ t.link.waterShown = s.link.waterShown ∧ t.power.feeders = s.power.feeders ∧
    t.power.programs = s.power.programs ∧ t.water = s.water ∧ t.fuel = s.fuel ∧ t.access = s.access ∧ t.lines = s.lines ∧
    t.room = s.room := by dsimp only; unfold upgradeOne; (try dsimp only); (repeat' split) <;> simp

@[simp] theorem upgradeWalk_frame (p : PontoonId) (s : State) :
    let t := (upgradeWalk p s)
    t.pending = s.pending ∧ t.part = s.part ∧ t.trunk = s.trunk ∧ t.settings = s.settings ∧ t.clock = s.clock ∧
    t.register = s.register ∧ t.engine = s.engine ∧ t.ledger = s.ledger ∧ t.link.branches = s.link.branches ∧
    t.link.filter = s.link.filter ∧ t.link.waterShown = s.link.waterShown ∧ t.power.feeders = s.power.feeders ∧
    t.power.programs = s.power.programs ∧ t.water = s.water ∧ t.fuel = s.fuel ∧ t.access = s.access ∧ t.lines = s.lines ∧
    t.room = s.room := by dsimp only; unfold upgradeWalk; (try dsimp only); (repeat' split) <;> simp

@[simp] theorem headroomIncrease_frame (p : PontoonId) (s : State) :
    let t := (headroomIncrease p s)
    t.pending = s.pending ∧ t.part = s.part ∧ t.trunk = s.trunk ∧ t.settings = s.settings ∧ t.clock = s.clock ∧
    t.register = s.register ∧ t.engine = s.engine ∧ t.ledger = s.ledger ∧ t.link.filter = s.link.filter ∧
    t.link.waterShown = s.link.waterShown ∧ t.power.feeders = s.power.feeders ∧ t.power.programs = s.power.programs ∧
    t.water = s.water ∧ t.fuel = s.fuel ∧ t.access = s.access ∧ t.lines = s.lines ∧ t.room = s.room := by dsimp only; unfold headroomIncrease; (try dsimp only); (repeat' split) <;> simp

@[simp] theorem enterClosing_frame (o : OutletId) (target : CloseTarget) (reason : Option PlugReason) (s : State) :
    let t := (enterClosing o target reason s)
    t.pending = s.pending ∧ t.part = s.part ∧ t.trunk = s.trunk ∧ t.settings = s.settings ∧ t.clock = s.clock ∧
    t.register = s.register ∧ t.engine = s.engine ∧ t.ledger = s.ledger ∧ t.link.filter = s.link.filter ∧
    t.link.waterShown = s.link.waterShown ∧ t.power.feeders = s.power.feeders ∧ t.power.programs = s.power.programs ∧
    t.water = s.water ∧ t.fuel = s.fuel ∧ t.access = s.access ∧ t.lines = s.lines ∧ t.room = s.room := by dsimp only; unfold enterClosing; (try dsimp only); (repeat' split) <;> simp

@[simp] theorem releaseGrant_frame (o : OutletId) (s : State) :
    let t := (releaseGrant o s)
    t.pending = s.pending ∧ t.part = s.part ∧ t.trunk = s.trunk ∧ t.settings = s.settings ∧ t.clock = s.clock ∧
    t.register = s.register ∧ t.engine = s.engine ∧ t.ledger = s.ledger ∧ t.link.filter = s.link.filter ∧
    t.link.waterShown = s.link.waterShown ∧ t.power.feeders = s.power.feeders ∧ t.power.programs = s.power.programs ∧
    t.water = s.water ∧ t.fuel = s.fuel ∧ t.access = s.access ∧ t.lines = s.lines ∧ t.room = s.room := by dsimp only; unfold releaseGrant; (try dsimp only); (repeat' split) <;> simp

@[simp] theorem releaseTo_frame (o : OutletId) (st : OutletState) (s0 : State) :
    let t := (releaseTo o st s0)
    t.pending = s0.pending ∧ t.part = s0.part ∧ t.trunk = s0.trunk ∧ t.settings = s0.settings ∧ t.clock = s0.clock ∧
    t.register = s0.register ∧ t.engine = s0.engine ∧ t.ledger = s0.ledger ∧ t.link.filter = s0.link.filter ∧
    t.link.waterShown = s0.link.waterShown ∧ t.power.feeders = s0.power.feeders ∧ t.power.programs = s0.power.programs ∧
    t.water = s0.water ∧ t.fuel = s0.fuel ∧ t.access = s0.access ∧ t.lines = s0.lines ∧ t.room = s0.room := by dsimp only; unfold releaseTo; (try dsimp only); (repeat' split) <;> simp

@[simp] theorem enterGrace_frame (o : OutletId) (s : State) :
    let t := (enterGrace o s)
    t.pending = s.pending ∧ t.part = s.part ∧ t.trunk = s.trunk ∧ t.settings = s.settings ∧ t.clock = s.clock ∧
    t.register = s.register ∧ t.engine = s.engine ∧ t.ledger = s.ledger ∧ t.link.filter = s.link.filter ∧
    t.link.waterShown = s.link.waterShown ∧ t.power.feeders = s.power.feeders ∧ t.power.programs = s.power.programs ∧
    t.water = s.water ∧ t.fuel = s.fuel ∧ t.access = s.access ∧ t.lines = s.lines ∧ t.room = s.room := by dsimp only; unfold enterGrace; (try dsimp only); (repeat' split) <;> simp

@[simp] theorem noteTrip_frame (o : OutletId) (cause : TripCause) (locked : Bool) (s : State) :
    let t := (noteTrip o cause locked s)
    t.pending = s.pending ∧ t.part = s.part ∧ t.trunk.node = s.trunk.node ∧ t.trunk.owed = s.trunk.owed ∧
    t.trunk.kept = s.trunk.kept ∧ t.trunk.cursor = s.trunk.cursor ∧ t.trunk.mode = s.trunk.mode ∧
    t.trunk.cause = s.trunk.cause ∧ t.trunk.commandStart = s.trunk.commandStart ∧ t.settings = s.settings ∧
    t.clock = s.clock ∧ t.register = s.register ∧ t.engine = s.engine ∧ t.ledger = s.ledger ∧ t.link = s.link ∧
    t.power.feeders = s.power.feeders ∧ t.power.starts = s.power.starts ∧ t.power.programs = s.power.programs ∧
    t.water = s.water ∧ t.fuel = s.fuel ∧ t.access = s.access ∧ t.lines = s.lines ∧ t.room = s.room := by dsimp only; unfold noteTrip; (try dsimp only); (repeat' split) <;> simp

@[simp] theorem limitTrip_frame (o : OutletId) (cause : TripCause) (s : State) :
    let t := (limitTrip o cause s)
    t.pending = s.pending ∧ t.part = s.part ∧ t.trunk.node = s.trunk.node ∧ t.trunk.owed = s.trunk.owed ∧
    t.trunk.kept = s.trunk.kept ∧ t.trunk.cursor = s.trunk.cursor ∧ t.trunk.mode = s.trunk.mode ∧
    t.trunk.cause = s.trunk.cause ∧ t.trunk.commandStart = s.trunk.commandStart ∧ t.settings = s.settings ∧
    t.clock = s.clock ∧ t.register = s.register ∧ t.engine = s.engine ∧ t.ledger = s.ledger ∧
    t.link.filter = s.link.filter ∧ t.link.waterShown = s.link.waterShown ∧ t.power.feeders = s.power.feeders ∧
    t.power.programs = s.power.programs ∧ t.water = s.water ∧ t.fuel = s.fuel ∧ t.access = s.access ∧ t.lines = s.lines ∧
    t.room = s.room := by dsimp only; unfold limitTrip; (try dsimp only); (repeat' split) <;> simp

@[simp] theorem returnPlugged_frame (o : OutletId) (s : State) :
    let t := (returnPlugged o s)
    t.pending = s.pending ∧ t.part = s.part ∧ t.trunk = s.trunk ∧ t.settings = s.settings ∧ t.clock = s.clock ∧
    t.register = s.register ∧ t.engine = s.engine ∧ t.ledger = s.ledger ∧ t.link.filter = s.link.filter ∧
    t.link.waterShown = s.link.waterShown ∧ t.power.feeders = s.power.feeders ∧ t.power.programs = s.power.programs ∧
    t.water = s.water ∧ t.fuel = s.fuel ∧ t.access = s.access ∧ t.lines = s.lines ∧ t.room = s.room := by dsimp only; unfold returnPlugged; (try dsimp only); (repeat' split) <;> simp

@[simp] theorem reevaluateBerth_frame (b : BerthId) (s : State) :
    let t := (reevaluateBerth b s)
    t.pending = s.pending ∧ t.part = s.part ∧ t.trunk = s.trunk ∧ t.settings = s.settings ∧ t.clock = s.clock ∧
    t.register = s.register ∧ t.engine = s.engine ∧ t.ledger = s.ledger ∧ t.link.filter = s.link.filter ∧
    t.link.waterShown = s.link.waterShown ∧ t.power.feeders = s.power.feeders ∧ t.power.programs = s.power.programs ∧
    t.water = s.water ∧ t.fuel = s.fuel ∧ t.access = s.access ∧ t.lines = s.lines ∧ t.room = s.room := by dsimp only; unfold reevaluateBerth; (try dsimp only); (repeat' split) <;> simp

@[simp] theorem closeForDeparture_frame (o : OutletId) (s : State) :
    let t := (closeForDeparture o s)
    t.pending = s.pending ∧ t.part = s.part ∧ t.trunk = s.trunk ∧ t.settings = s.settings ∧ t.clock = s.clock ∧
    t.register = s.register ∧ t.engine = s.engine ∧ t.ledger = s.ledger ∧ t.link.filter = s.link.filter ∧
    t.link.waterShown = s.link.waterShown ∧ t.power.feeders = s.power.feeders ∧ t.power.programs = s.power.programs ∧
    t.water = s.water ∧ t.fuel = s.fuel ∧ t.access = s.access ∧ t.lines = s.lines ∧ t.room = s.room := by dsimp only; unfold closeForDeparture; (try dsimp only); (repeat' split) <;> simp

@[simp] theorem closeBerthOutlets_frame (b : BerthId) (s : State) :
    let t := (closeBerthOutlets b s)
    t.pending = s.pending ∧ t.part = s.part ∧ t.trunk = s.trunk ∧ t.settings = s.settings ∧ t.clock = s.clock ∧
    t.register = s.register ∧ t.engine = s.engine ∧ t.ledger = s.ledger ∧ t.link.filter = s.link.filter ∧
    t.link.waterShown = s.link.waterShown ∧ t.power.feeders = s.power.feeders ∧ t.power.programs = s.power.programs ∧
    t.water = s.water ∧ t.fuel = s.fuel ∧ t.access = s.access ∧ t.lines = s.lines ∧ t.room = s.room := by dsimp only; unfold closeBerthOutlets; (try dsimp only); (repeat' split) <;> simp

@[simp] theorem powerCreditStop_frame (a : AccountId) (s : State) :
    let t := (powerCreditStop a s)
    t.pending = s.pending ∧ t.part = s.part ∧ t.trunk = s.trunk ∧ t.settings = s.settings ∧ t.clock = s.clock ∧
    t.register = s.register ∧ t.engine = s.engine ∧ t.ledger = s.ledger ∧ t.link.filter = s.link.filter ∧
    t.link.waterShown = s.link.waterShown ∧ t.power.feeders = s.power.feeders ∧ t.power.programs = s.power.programs ∧
    t.water = s.water ∧ t.fuel = s.fuel ∧ t.access = s.access ∧ t.lines = s.lines ∧ t.room = s.room := by dsimp only; unfold powerCreditStop; (try dsimp only); (repeat' split) <;> simp

@[simp] theorem leaveGrace_frame (o : OutletId) (s : State) :
    let t := (leaveGrace o s)
    t.pending = s.pending ∧ t.part = s.part ∧ t.trunk = s.trunk ∧ t.settings = s.settings ∧ t.clock = s.clock ∧
    t.register = s.register ∧ t.engine = s.engine ∧ t.ledger = s.ledger ∧ t.link.branches = s.link.branches ∧
    t.link.filter = s.link.filter ∧ t.link.waterShown = s.link.waterShown ∧ t.power.feeders = s.power.feeders ∧
    t.power.starts = s.power.starts ∧ t.power.programs = s.power.programs ∧ t.water = s.water ∧ t.fuel = s.fuel ∧
    t.access = s.access ∧ t.lines = s.lines ∧ t.room = s.room := by dsimp only; unfold leaveGrace; (try dsimp only); (repeat' split) <;> simp

@[simp] theorem powerRestoration_frame (a : AccountId) (s : State) :
    let t := (powerRestoration a s)
    t.pending = s.pending ∧ t.part = s.part ∧ t.trunk = s.trunk ∧ t.settings = s.settings ∧ t.clock = s.clock ∧
    t.register = s.register ∧ t.engine = s.engine ∧ t.ledger = s.ledger ∧ t.link.filter = s.link.filter ∧
    t.link.waterShown = s.link.waterShown ∧ t.power.feeders = s.power.feeders ∧ t.power.programs = s.power.programs ∧
    t.water = s.water ∧ t.fuel = s.fuel ∧ t.access = s.access ∧ t.lines = s.lines ∧ t.room = s.room := by dsimp only; unfold powerRestoration; (try dsimp only); (repeat' split) <;> simp

/-! ### Water -/

@[simp] theorem displayTap_frame (t : TapId) (condition : Nat) (s : State) :
    let t' := (displayTap t condition s)
    t'.pending = s.pending ∧ t'.part = s.part ∧ t'.trunk = s.trunk ∧ t'.settings = s.settings ∧ t'.clock = s.clock ∧
    t'.register = s.register ∧ t'.engine = s.engine ∧ t'.ledger = s.ledger ∧ t'.link.branches = s.link.branches ∧
    t'.link.filter = s.link.filter ∧ t'.power = s.power ∧ t'.water = s.water ∧ t'.fuel = s.fuel ∧ t'.access = s.access ∧
    t'.lines = s.lines ∧ t'.room = s.room := by dsimp only; unfold displayTap; (try dsimp only); (repeat' split) <;> simp

@[simp] theorem putTap_frame (t : TapId) (x : Tap) (condition : Nat) (s : State) :
    let t' := (putTap t x condition s)
    t'.pending = s.pending ∧ t'.part = s.part ∧ t'.trunk = s.trunk ∧ t'.settings = s.settings ∧ t'.clock = s.clock ∧
    t'.register = s.register ∧ t'.engine = s.engine ∧ t'.ledger = s.ledger ∧ t'.link.filter = s.link.filter ∧
    t'.power = s.power ∧ t'.fuel = s.fuel ∧ t'.access = s.access ∧ t'.lines = s.lines ∧ t'.room = s.room := by dsimp only; unfold putTap; (try dsimp only); (repeat' split) <;> simp

@[simp] theorem closeTap_frame (t : TapId) (st : TapState) (condition : Nat) (s : State) :
    let t' := (closeTap t st condition s)
    t'.pending = s.pending ∧ t'.part = s.part ∧ t'.trunk = s.trunk ∧ t'.settings = s.settings ∧ t'.clock = s.clock ∧
    t'.register = s.register ∧ t'.engine = s.engine ∧ t'.ledger = s.ledger ∧ t'.link.filter = s.link.filter ∧
    t'.power = s.power ∧ t'.fuel = s.fuel ∧ t'.access = s.access ∧ t'.lines = s.lines ∧ t'.room = s.room := by dsimp only; unfold closeTap; (try dsimp only); (repeat' split) <;> simp

@[simp] theorem waterCreditStop_frame (a : AccountId) (s : State) :
    let t := (waterCreditStop a s)
    t.pending = s.pending ∧ t.part = s.part ∧ t.trunk = s.trunk ∧ t.settings = s.settings ∧ t.clock = s.clock ∧
    t.register = s.register ∧ t.engine = s.engine ∧ t.ledger = s.ledger ∧ t.link.filter = s.link.filter ∧
    t.power = s.power ∧ t.fuel = s.fuel ∧ t.access = s.access ∧ t.lines = s.lines ∧ t.room = s.room := by dsimp only; unfold waterCreditStop; (try dsimp only); (repeat' split) <;> simp

@[simp] theorem closeBerthTap_frame (b : BerthId) (s : State) :
    let t := (closeBerthTap b s)
    t.pending = s.pending ∧ t.part = s.part ∧ t.trunk = s.trunk ∧ t.settings = s.settings ∧ t.clock = s.clock ∧
    t.register = s.register ∧ t.engine = s.engine ∧ t.ledger = s.ledger ∧ t.link.filter = s.link.filter ∧
    t.power = s.power ∧ t.fuel = s.fuel ∧ t.access = s.access ∧ t.lines = s.lines ∧ t.room = s.room := by dsimp only; unfold closeBerthTap; (try dsimp only); (repeat' split) <;> simp

@[simp] theorem welcomeTap_frame (b : BerthId) (s : State) :
    let t := (welcomeTap b s)
    t.pending = s.pending ∧ t.part = s.part ∧ t.trunk = s.trunk ∧ t.settings = s.settings ∧ t.clock = s.clock ∧
    t.register = s.register ∧ t.engine = s.engine ∧ t.ledger = s.ledger ∧ t.link.branches = s.link.branches ∧
    t.link.filter = s.link.filter ∧ t.power = s.power ∧ t.water = s.water ∧ t.fuel = s.fuel ∧ t.access = s.access ∧
    t.lines = s.lines ∧ t.room = s.room := by dsimp only; unfold welcomeTap; (try dsimp only); (repeat' split) <;> simp

@[simp] theorem settleTap_frame (t : TapId) (s : State) :
    let t' := (settleTap t s)
    t'.pending = s.pending ∧ t'.part = s.part ∧ t'.trunk = s.trunk ∧ t'.settings = s.settings ∧ t'.clock = s.clock ∧
    t'.register = s.register ∧ t'.engine = s.engine ∧ t'.ledger = s.ledger ∧ t'.link = s.link ∧ t'.power = s.power ∧
    t'.fuel = s.fuel ∧ t'.access = s.access ∧ t'.lines = s.lines ∧ t'.room = s.room := by dsimp only; unfold settleTap; (try dsimp only); (repeat' split) <;> simp

@[simp] theorem dropAllowanceStay_frame (t : TapId) (s : State) :
    let t' := (dropAllowanceStay t s)
    t'.pending = s.pending ∧ t'.part = s.part ∧ t'.trunk = s.trunk ∧ t'.settings = s.settings ∧ t'.clock = s.clock ∧
    t'.register = s.register ∧ t'.engine = s.engine ∧ t'.ledger = s.ledger ∧ t'.link = s.link ∧ t'.power = s.power ∧
    t'.fuel = s.fuel ∧ t'.access = s.access ∧ t'.lines = s.lines ∧ t'.room = s.room := by dsimp only; unfold dropAllowanceStay; (try dsimp only); (repeat' split) <;> simp

@[simp] theorem forgetAllowanceStay_frame (y : StayId) (s : State) :
    let t := (forgetAllowanceStay y s)
    t.pending = s.pending ∧ t.part = s.part ∧ t.trunk = s.trunk ∧ t.settings = s.settings ∧ t.clock = s.clock ∧
    t.register = s.register ∧ t.engine = s.engine ∧ t.ledger = s.ledger ∧ t.link = s.link ∧ t.power = s.power ∧
    t.fuel = s.fuel ∧ t.access = s.access ∧ t.lines = s.lines ∧ t.room = s.room := by dsimp only; unfold forgetAllowanceStay; (try dsimp only); (repeat' split) <;> simp

@[simp] theorem resetLeakCount_frame (t : TapId) (s : State) :
    let t' := (resetLeakCount t s)
    t'.pending = s.pending ∧ t'.part = s.part ∧ t'.trunk = s.trunk ∧ t'.settings = s.settings ∧ t'.clock = s.clock ∧
    t'.register = s.register ∧ t'.engine = s.engine ∧ t'.ledger = s.ledger ∧ t'.link = s.link ∧ t'.power = s.power ∧
    t'.fuel = s.fuel ∧ t'.access = s.access ∧ t'.lines = s.lines ∧ t'.room = s.room := by dsimp only; unfold resetLeakCount; (try dsimp only); (repeat' split) <;> simp

@[simp] theorem waterStationChanged_frame (st : StationId) (s : State) :
    let t := (waterStationChanged st s)
    t.pending = s.pending ∧ t.part = s.part ∧ t.trunk = s.trunk ∧ t.settings = s.settings ∧ t.clock = s.clock ∧
    t.register = s.register ∧ t.engine = s.engine ∧ t.ledger = s.ledger ∧ t.link = s.link ∧ t.power = s.power ∧
    t.fuel = s.fuel ∧ t.access = s.access ∧ t.lines = s.lines ∧ t.room = s.room := by dsimp only; unfold waterStationChanged; (try dsimp only); (repeat' split) <;> simp

/-! ### Ledger -/

@[simp] theorem announceStop_frame (a : AccountId) (s : State) :
    let t := (announceStop a s)
    t.pending = s.pending ∧ t.part = s.part ∧ t.trunk = s.trunk ∧ t.settings = s.settings ∧ t.clock = s.clock ∧
    t.register = s.register ∧ t.engine = s.engine ∧ t.ledger = s.ledger ∧ t.link.filter = s.link.filter ∧
    t.power.feeders = s.power.feeders ∧ t.power.programs = s.power.programs ∧ t.fuel = s.fuel ∧ t.access = s.access ∧
    t.lines = s.lines ∧ t.room = s.room := by dsimp only; unfold announceStop; (try dsimp only); (repeat' split) <;> simp

@[simp] theorem announceRestoration_frame (a : AccountId) (s : State) :
    let t := (announceRestoration a s)
    t.pending = s.pending ∧ t.part = s.part ∧ t.trunk = s.trunk ∧ t.settings = s.settings ∧ t.clock = s.clock ∧
    t.register = s.register ∧ t.engine = s.engine ∧ t.ledger = s.ledger ∧ t.link.filter = s.link.filter ∧
    t.link.waterShown = s.link.waterShown ∧ t.power.feeders = s.power.feeders ∧ t.power.programs = s.power.programs ∧
    t.water = s.water ∧ t.fuel = s.fuel ∧ t.access = s.access ∧ t.lines = s.lines ∧ t.room = s.room := by dsimp only; unfold announceRestoration; (try dsimp only); (repeat' split) <;> simp

@[simp] theorem announce_frame (a : AccountId) (stopped : Bool) (s : State) :
    let t := (announce a stopped s)
    t.pending = s.pending ∧ t.part = s.part ∧ t.trunk = s.trunk ∧ t.settings = s.settings ∧ t.clock = s.clock ∧
    t.register = s.register ∧ t.engine = s.engine ∧ t.ledger = s.ledger ∧ t.link.filter = s.link.filter ∧
    t.power.feeders = s.power.feeders ∧ t.power.programs = s.power.programs ∧ t.fuel = s.fuel ∧ t.access = s.access ∧
    t.lines = s.lines ∧ t.room = s.room := by dsimp only; unfold announce; (try dsimp only); (repeat' split) <;> simp

@[simp] theorem settleAccount_frame (a : AccountId) (stopped : Bool) (s : State) :
    let t := (settleAccount a stopped s)
    t.pending = s.pending ∧ t.part = s.part ∧ t.trunk.node = s.trunk.node ∧ t.trunk.owed = s.trunk.owed ∧
    t.trunk.kept = s.trunk.kept ∧ t.trunk.cursor = s.trunk.cursor ∧ t.trunk.mode = s.trunk.mode ∧
    t.trunk.cause = s.trunk.cause ∧ t.trunk.commandStart = s.trunk.commandStart ∧ t.settings = s.settings ∧
    t.clock = s.clock ∧ t.register = s.register ∧ t.engine = s.engine ∧ t.ledger.holds = s.ledger.holds ∧
    t.ledger.tariff = s.ledger.tariff ∧ t.ledger.rolloverDay = s.ledger.rolloverDay ∧ t.ledger.pass = s.ledger.pass ∧
    t.link.filter = s.link.filter ∧ t.power.feeders = s.power.feeders ∧ t.power.programs = s.power.programs ∧
    t.fuel = s.fuel ∧ t.access = s.access ∧ t.lines = s.lines ∧ t.room = s.room := by dsimp only; unfold settleAccount; (try dsimp only); (repeat' split) <;> simp

@[simp] theorem chargeAmount_frame (a : AccountId) (v : Service) (q : Nat) (price : Nat) (s : State) :
    let t := (chargeAmount a v q price s).2
    t.pending = s.pending ∧ t.part = s.part ∧ t.trunk.node = s.trunk.node ∧ t.trunk.owed = s.trunk.owed ∧
    t.trunk.kept = s.trunk.kept ∧ t.trunk.cursor = s.trunk.cursor ∧ t.trunk.mode = s.trunk.mode ∧
    t.trunk.cause = s.trunk.cause ∧ t.trunk.commandStart = s.trunk.commandStart ∧ t.settings = s.settings ∧
    t.clock = s.clock ∧ t.register = s.register ∧ t.engine = s.engine ∧ t.ledger.holds = s.ledger.holds ∧
    t.ledger.tariff = s.ledger.tariff ∧ t.ledger.rolloverDay = s.ledger.rolloverDay ∧ t.ledger.pass = s.ledger.pass ∧
    t.link = s.link ∧ t.power = s.power ∧ t.water = s.water ∧ t.fuel = s.fuel ∧ t.access = s.access ∧ t.lines = s.lines ∧
    t.room = s.room := by dsimp only; unfold chargeAmount; (try dsimp only); (repeat' split) <;> simp

@[simp] theorem charge_frame (a : AccountId) (v : Service) (q : Nat) (base : Nat) (s : State) :
    let t := (charge a v q base s).2
    t.pending = s.pending ∧ t.part = s.part ∧ t.trunk.node = s.trunk.node ∧ t.trunk.owed = s.trunk.owed ∧
    t.trunk.kept = s.trunk.kept ∧ t.trunk.cursor = s.trunk.cursor ∧ t.trunk.mode = s.trunk.mode ∧
    t.trunk.cause = s.trunk.cause ∧ t.trunk.commandStart = s.trunk.commandStart ∧ t.settings = s.settings ∧
    t.clock = s.clock ∧ t.register = s.register ∧ t.engine = s.engine ∧ t.ledger.holds = s.ledger.holds ∧
    t.ledger.tariff = s.ledger.tariff ∧ t.ledger.rolloverDay = s.ledger.rolloverDay ∧ t.ledger.pass = s.ledger.pass ∧
    t.link.filter = s.link.filter ∧ t.power.feeders = s.power.feeders ∧ t.power.programs = s.power.programs ∧
    t.fuel = s.fuel ∧ t.access = s.access ∧ t.lines = s.lines ∧ t.room = s.room := by dsimp only; unfold charge; (try dsimp only); (repeat' split) <;> simp

@[simp] theorem chargePower_frame (a : AccountId) (q : Nat) (s : State) :
    let t := (chargePower a q s)
    t.pending = s.pending ∧ t.part = s.part ∧ t.trunk.node = s.trunk.node ∧ t.trunk.owed = s.trunk.owed ∧
    t.trunk.kept = s.trunk.kept ∧ t.trunk.cursor = s.trunk.cursor ∧ t.trunk.mode = s.trunk.mode ∧
    t.trunk.cause = s.trunk.cause ∧ t.trunk.commandStart = s.trunk.commandStart ∧ t.settings = s.settings ∧
    t.clock.value = s.clock.value ∧ t.clock.isSet = s.clock.isSet ∧ t.clock.rollover = s.clock.rollover ∧
    t.clock.nextAdvance = s.clock.nextAdvance ∧ t.register = s.register ∧ t.engine = s.engine ∧
    t.ledger.holds = s.ledger.holds ∧ t.ledger.tariff = s.ledger.tariff ∧ t.ledger.rolloverDay = s.ledger.rolloverDay ∧
    t.ledger.pass = s.ledger.pass ∧ t.link.filter = s.link.filter ∧ t.power.feeders = s.power.feeders ∧
    t.power.programs = s.power.programs ∧ t.fuel = s.fuel ∧ t.access = s.access ∧ t.lines = s.lines ∧ t.room = s.room := by dsimp only; unfold chargePower; (try dsimp only); (repeat' split) <;> simp

@[simp] theorem chargeWater_frame (a : AccountId) (stay : Option StayId) (q : Nat) (s : State) :
    let t := (chargeWater a stay q s)
    t.pending = s.pending ∧ t.part = s.part ∧ t.trunk.node = s.trunk.node ∧ t.trunk.owed = s.trunk.owed ∧
    t.trunk.kept = s.trunk.kept ∧ t.trunk.cursor = s.trunk.cursor ∧ t.trunk.mode = s.trunk.mode ∧
    t.trunk.cause = s.trunk.cause ∧ t.trunk.commandStart = s.trunk.commandStart ∧ t.settings = s.settings ∧
    t.clock = s.clock ∧ t.register.pontoons = s.register.pontoons ∧ t.register.berths = s.register.berths ∧
    t.register.arrivals = s.register.arrivals ∧ t.engine = s.engine ∧ t.ledger.holds = s.ledger.holds ∧
    t.ledger.tariff = s.ledger.tariff ∧ t.ledger.rolloverDay = s.ledger.rolloverDay ∧ t.ledger.pass = s.ledger.pass ∧
    t.link.filter = s.link.filter ∧ t.power.feeders = s.power.feeders ∧ t.power.programs = s.power.programs ∧
    t.fuel = s.fuel ∧ t.access = s.access ∧ t.lines = s.lines ∧ t.room = s.room := by dsimp only; unfold chargeWater; (try dsimp only); (repeat' split) <;> simp

@[simp] theorem fillHold_frame (h : HoldSlot) (x : HoldRecord) (s : State) :
    let t := (fillHold h x s)
    t.pending = s.pending ∧ t.part = s.part ∧ t.trunk = s.trunk ∧ t.settings = s.settings ∧ t.clock = s.clock ∧
    t.register = s.register ∧ t.engine = s.engine ∧ t.ledger.tariff = s.ledger.tariff ∧
    t.ledger.rolloverDay = s.ledger.rolloverDay ∧ t.ledger.pass = s.ledger.pass ∧ t.link = s.link ∧ t.power = s.power ∧
    t.water = s.water ∧ t.fuel = s.fuel ∧ t.access = s.access ∧ t.lines = s.lines ∧ t.room = s.room := by dsimp only; unfold fillHold; (try dsimp only); (repeat' split) <;> simp

@[simp] theorem emptyHold_frame (h : HoldSlot) (s : State) :
    let t := (emptyHold h s)
    t.pending = s.pending ∧ t.part = s.part ∧ t.trunk = s.trunk ∧ t.settings = s.settings ∧ t.clock = s.clock ∧
    t.register = s.register ∧ t.engine = s.engine ∧ t.ledger.tariff = s.ledger.tariff ∧
    t.ledger.rolloverDay = s.ledger.rolloverDay ∧ t.ledger.pass = s.ledger.pass ∧ t.link = s.link ∧ t.power = s.power ∧
    t.water = s.water ∧ t.fuel = s.fuel ∧ t.access = s.access ∧ t.lines = s.lines ∧ t.room = s.room := by dsimp only; unfold emptyHold; (try dsimp only); (repeat' split) <;> simp

@[simp] theorem releaseHoldSlot_frame (h : HoldSlot) (s : State) :
    let t := (releaseHoldSlot h s)
    t.pending = s.pending ∧ t.part = s.part ∧ t.trunk.node = s.trunk.node ∧ t.trunk.owed = s.trunk.owed ∧
    t.trunk.kept = s.trunk.kept ∧ t.trunk.cursor = s.trunk.cursor ∧ t.trunk.mode = s.trunk.mode ∧
    t.trunk.cause = s.trunk.cause ∧ t.trunk.commandStart = s.trunk.commandStart ∧ t.settings = s.settings ∧
    t.clock = s.clock ∧ t.register = s.register ∧ t.engine = s.engine ∧ t.ledger.tariff = s.ledger.tariff ∧
    t.ledger.rolloverDay = s.ledger.rolloverDay ∧ t.ledger.pass = s.ledger.pass ∧ t.link.filter = s.link.filter ∧
    t.power.feeders = s.power.feeders ∧ t.power.programs = s.power.programs ∧ t.fuel = s.fuel ∧ t.access = s.access ∧
    t.lines = s.lines ∧ t.room = s.room := by dsimp only; unfold releaseHoldSlot; (try dsimp only); (repeat' split) <;> simp

@[simp] theorem placeHold_frame (h : HoldSlot) (x : HoldRecord) (s : State) :
    let t := (placeHold h x s)
    t.pending = s.pending ∧ t.part = s.part ∧ t.trunk.node = s.trunk.node ∧ t.trunk.owed = s.trunk.owed ∧
    t.trunk.kept = s.trunk.kept ∧ t.trunk.cursor = s.trunk.cursor ∧ t.trunk.mode = s.trunk.mode ∧
    t.trunk.cause = s.trunk.cause ∧ t.trunk.commandStart = s.trunk.commandStart ∧ t.settings = s.settings ∧
    t.clock = s.clock ∧ t.register = s.register ∧ t.engine = s.engine ∧ t.ledger.tariff = s.ledger.tariff ∧
    t.ledger.rolloverDay = s.ledger.rolloverDay ∧ t.ledger.pass = s.ledger.pass ∧ t.link.filter = s.link.filter ∧
    t.power.feeders = s.power.feeders ∧ t.power.programs = s.power.programs ∧ t.fuel = s.fuel ∧ t.access = s.access ∧
    t.lines = s.lines ∧ t.room = s.room := by dsimp only; unfold placeHold; (try dsimp only); (repeat' split) <;> simp

/-! ### Register -/

@[simp] theorem setLeadMark_frame (y : StayId) (m : Bool) (s : State) :
    let t := (setLeadMark y m s)
    t.pending = s.pending ∧ t.part = s.part ∧ t.trunk = s.trunk ∧ t.settings = s.settings ∧ t.clock = s.clock ∧
    t.register = s.register ∧ t.ledger = s.ledger ∧ t.link = s.link ∧ t.power = s.power ∧ t.water = s.water ∧
    t.fuel = s.fuel ∧ t.access = s.access ∧ t.lines = s.lines ∧ t.room = s.room := by dsimp only; unfold setLeadMark; (try dsimp only); (repeat' split) <;> simp

/-- A lead mark is nothing else of the engine. -/
@[simp] theorem setLeadMark_engine (y : StayId) (m : Bool) (s : State) :
    (setLeadMark y m s).engine.queue = s.engine.queue ∧ (setLeadMark y m s).engine.scan = s.engine.scan ∧
    (setLeadMark y m s).engine.resubmit = s.engine.resubmit := ⟨rfl, rfl, rfl⟩

@[simp] theorem joinArrivals_frame (y : StayId) (s : State) :
    let t := (joinArrivals y s)
    t.pending = s.pending ∧ t.part = s.part ∧ t.trunk = s.trunk ∧ t.settings = s.settings ∧ t.clock = s.clock ∧
    t.register.pontoons = s.register.pontoons ∧ t.register.berths = s.register.berths ∧
    t.register.stays = s.register.stays ∧ t.ledger = s.ledger ∧ t.link = s.link ∧ t.power = s.power ∧ t.water = s.water ∧
    t.fuel = s.fuel ∧ t.access = s.access ∧ t.lines = s.lines ∧ t.room = s.room := by dsimp only; unfold joinArrivals; (try dsimp only); (repeat' split) <;> simp

@[simp] theorem leaveArrivals_frame (y : StayId) (s : State) :
    let t := (leaveArrivals y s)
    t.pending = s.pending ∧ t.part = s.part ∧ t.trunk = s.trunk ∧ t.settings = s.settings ∧ t.clock = s.clock ∧
    t.register.pontoons = s.register.pontoons ∧ t.register.berths = s.register.berths ∧
    t.register.stays = s.register.stays ∧ t.engine = s.engine ∧ t.ledger = s.ledger ∧ t.link = s.link ∧
    t.power = s.power ∧ t.water = s.water ∧ t.fuel = s.fuel ∧ t.access = s.access ∧ t.lines = s.lines ∧ t.room = s.room := by dsimp only; unfold leaveArrivals; (try dsimp only); (repeat' split) <;> simp

@[simp] theorem beginAttempt_frame (n : Nat) (y : StayId) (s : State) :
    let t := (beginAttempt n y s)
    t.pending = s.pending ∧ t.part = s.part ∧ t.trunk = s.trunk ∧ t.settings = s.settings ∧ t.clock = s.clock ∧
    t.register = s.register ∧ t.ledger = s.ledger ∧ t.link = s.link ∧ t.power = s.power ∧ t.water = s.water ∧
    t.fuel = s.fuel ∧ t.access = s.access ∧ t.lines = s.lines ∧ t.room = s.room := by dsimp only; unfold beginAttempt; (try dsimp only); (repeat' split) <;> simp

@[simp] theorem beginNext_frame (s : State) :
    let t := (beginNext s)
    t.pending = s.pending ∧ t.part = s.part ∧ t.trunk = s.trunk ∧ t.settings = s.settings ∧ t.clock = s.clock ∧
    t.register = s.register ∧ t.ledger = s.ledger ∧ t.link = s.link ∧ t.power = s.power ∧ t.water = s.water ∧
    t.fuel = s.fuel ∧ t.access = s.access ∧ t.lines = s.lines ∧ t.room = s.room := by dsimp only; unfold beginNext; (try dsimp only); (repeat' split) <;> simp

@[simp] theorem tryFilling_frame (s : State) :
    let t := (tryFilling s)
    t.pending = s.pending ∧ t.part = s.part ∧ t.trunk.node = s.trunk.node ∧ t.trunk.owed = s.trunk.owed ∧
    t.trunk.kept = s.trunk.kept ∧ t.trunk.cursor = s.trunk.cursor ∧ t.trunk.mode = s.trunk.mode ∧
    t.trunk.cause = s.trunk.cause ∧ t.trunk.commandStart = s.trunk.commandStart ∧ t.settings = s.settings ∧
    t.clock.value = s.clock.value ∧ t.clock.isSet = s.clock.isSet ∧ t.clock.rollover = s.clock.rollover ∧
    t.clock.nextAdvance = s.clock.nextAdvance ∧ t.register = s.register ∧ t.engine = s.engine ∧ t.ledger = s.ledger ∧
    t.link = s.link ∧ t.power = s.power ∧ t.water = s.water ∧ t.fuel = s.fuel ∧ t.access = s.access ∧ t.lines = s.lines ∧
    t.room = s.room := by dsimp only; unfold tryFilling; (try dsimp only); (repeat' split) <;> simp

@[simp] theorem markSubject_frame (s : State) :
    let t := (markSubject s)
    t.pending = s.pending ∧ t.part = s.part ∧ t.trunk = s.trunk ∧ t.settings = s.settings ∧ t.clock = s.clock ∧
    t.register = s.register ∧ t.engine.queue = s.engine.queue ∧ t.engine.scan = s.engine.scan ∧
    t.engine.resubmit = s.engine.resubmit ∧ t.ledger = s.ledger ∧ t.link = s.link ∧ t.power = s.power ∧
    t.water = s.water ∧ t.fuel = s.fuel ∧ t.access = s.access ∧ t.lines = s.lines ∧ t.room = s.room := by
  dsimp only; unfold markSubject; split
  · split <;> simp
  · simp

@[simp] theorem endScan_frame (s : State) :
    let t := (endScan s)
    t.pending = s.pending ∧ t.part = s.part ∧ t.trunk.node = s.trunk.node ∧ t.trunk.owed = s.trunk.owed ∧
    t.trunk.kept = s.trunk.kept ∧ t.trunk.cursor = s.trunk.cursor ∧ t.trunk.mode = s.trunk.mode ∧
    t.trunk.cause = s.trunk.cause ∧ t.trunk.commandStart = s.trunk.commandStart ∧ t.settings = s.settings ∧
    t.clock.value = s.clock.value ∧ t.clock.isSet = s.clock.isSet ∧ t.clock.rollover = s.clock.rollover ∧
    t.clock.nextAdvance = s.clock.nextAdvance ∧ t.register = s.register ∧ t.ledger = s.ledger ∧ t.link = s.link ∧
    t.power = s.power ∧ t.water = s.water ∧ t.fuel = s.fuel ∧ t.access = s.access ∧ t.lines = s.lines ∧ t.room = s.room := by dsimp only; unfold endScan; (try dsimp only); (repeat' split) <;> simp

@[simp] theorem enqueueFit_frame (e : FitEntry) (s : State) :
    let t := (enqueueFit e s)
    t.pending = s.pending ∧ t.part = s.part ∧ t.trunk = s.trunk ∧ t.settings = s.settings ∧ t.clock = s.clock ∧
    t.register = s.register ∧ t.ledger = s.ledger ∧ t.link = s.link ∧ t.power = s.power ∧ t.water = s.water ∧
    t.fuel = s.fuel ∧ t.access = s.access ∧ t.lines = s.lines ∧ t.room = s.room := by dsimp only; unfold enqueueFit; (try dsimp only); (repeat' split) <;> simp

@[simp] theorem contend_frame (y : StayId) (cause : ContendedCause) (s : State) :
    let t := (contend y cause s)
    t.pending = s.pending ∧ t.part = s.part ∧ t.trunk.node = s.trunk.node ∧ t.trunk.owed = s.trunk.owed ∧
    t.trunk.kept = s.trunk.kept ∧ t.trunk.cursor = s.trunk.cursor ∧ t.trunk.mode = s.trunk.mode ∧
    t.trunk.cause = s.trunk.cause ∧ t.trunk.commandStart = s.trunk.commandStart ∧ t.settings = s.settings ∧
    t.clock.value = s.clock.value ∧ t.clock.isSet = s.clock.isSet ∧ t.clock.rollover = s.clock.rollover ∧
    t.clock.nextAdvance = s.clock.nextAdvance ∧ t.register = s.register ∧ t.ledger = s.ledger ∧ t.link = s.link ∧
    t.power = s.power ∧ t.water = s.water ∧ t.fuel = s.fuel ∧ t.access = s.access ∧ t.lines = s.lines ∧ t.room = s.room := by dsimp only; unfold contend; (try dsimp only); (repeat' split) <;> simp

@[simp] theorem countFreed_frame (s : State) :
    let t := (countFreed s)
    t.pending = s.pending ∧ t.part = s.part ∧ t.trunk.node = s.trunk.node ∧ t.trunk.owed = s.trunk.owed ∧
    t.trunk.kept = s.trunk.kept ∧ t.trunk.cursor = s.trunk.cursor ∧ t.trunk.mode = s.trunk.mode ∧
    t.trunk.cause = s.trunk.cause ∧ t.trunk.commandStart = s.trunk.commandStart ∧ t.settings = s.settings ∧
    t.clock.value = s.clock.value ∧ t.clock.isSet = s.clock.isSet ∧ t.clock.rollover = s.clock.rollover ∧
    t.clock.nextAdvance = s.clock.nextAdvance ∧ t.register = s.register ∧ t.ledger = s.ledger ∧ t.link = s.link ∧
    t.power = s.power ∧ t.water = s.water ∧ t.fuel = s.fuel ∧ t.access = s.access ∧ t.lines = s.lines ∧ t.room = s.room := by dsimp only; unfold countFreed; (try dsimp only); (repeat' split) <;> simp

@[simp] theorem holdBerth_frame (y : StayId) (b : BerthId) (s : State) :
    let t := (holdBerth y b s)
    t.pending = s.pending ∧ t.part = s.part ∧ t.trunk = s.trunk ∧ t.settings = s.settings ∧ t.clock = s.clock ∧
    t.register.pontoons = s.register.pontoons ∧ t.engine = s.engine ∧ t.ledger = s.ledger ∧ t.link = s.link ∧
    t.power = s.power ∧ t.water = s.water ∧ t.fuel = s.fuel ∧ t.access = s.access ∧ t.lines = s.lines ∧ t.room = s.room := by dsimp only; unfold holdBerth; (try dsimp only); (repeat' split) <;> simp

@[simp] theorem giveUpBerth_frame (b : BerthId) (s : State) :
    let t := (giveUpBerth b s)
    t.pending = s.pending ∧ t.part = s.part ∧ t.trunk.node = s.trunk.node ∧ t.trunk.owed = s.trunk.owed ∧
    t.trunk.kept = s.trunk.kept ∧ t.trunk.cursor = s.trunk.cursor ∧ t.trunk.mode = s.trunk.mode ∧
    t.trunk.cause = s.trunk.cause ∧ t.trunk.commandStart = s.trunk.commandStart ∧ t.settings = s.settings ∧
    t.clock.value = s.clock.value ∧ t.clock.isSet = s.clock.isSet ∧ t.clock.rollover = s.clock.rollover ∧
    t.clock.nextAdvance = s.clock.nextAdvance ∧ t.register.pontoons = s.register.pontoons ∧
    t.register.stays = s.register.stays ∧ t.register.arrivals = s.register.arrivals ∧ t.ledger = s.ledger ∧
    t.link = s.link ∧ t.power = s.power ∧ t.water = s.water ∧ t.fuel = s.fuel ∧ t.access = s.access ∧ t.lines = s.lines ∧
    t.room = s.room := by dsimp only; unfold giveUpBerth; (try dsimp only); (repeat' split) <;> simp

@[simp] theorem endGuest_frame (expiry : Option Nat) (i : CredentialSlot) (s : State) :
    let t := (endGuest expiry i s)
    t.pending = s.pending ∧ t.part = s.part ∧ t.trunk = s.trunk ∧ t.settings = s.settings ∧ t.clock = s.clock ∧
    t.register = s.register ∧ t.engine = s.engine ∧ t.ledger = s.ledger ∧ t.link = s.link ∧ t.power = s.power ∧
    t.water = s.water ∧ t.fuel = s.fuel ∧ t.access.gates = s.access.gates ∧
    t.access.officeRelease = s.access.officeRelease ∧ t.access.log = s.access.log ∧
    t.access.nextPosition = s.access.nextPosition ∧ t.access.nextSequence = s.access.nextSequence ∧ t.lines = s.lines ∧
    t.room = s.room := by dsimp only; unfold endGuest; (try dsimp only); (repeat' split) <;> simp

@[simp] theorem endGuests_frame (y : StayId) (s : State) :
    let t := (endGuests y s)
    t.pending = s.pending ∧ t.part = s.part ∧ t.trunk.node = s.trunk.node ∧ t.trunk.owed = s.trunk.owed ∧
    t.trunk.kept = s.trunk.kept ∧ t.trunk.cursor = s.trunk.cursor ∧ t.trunk.mode = s.trunk.mode ∧
    t.trunk.cause = s.trunk.cause ∧ t.trunk.commandStart = s.trunk.commandStart ∧ t.settings = s.settings ∧
    t.clock.value = s.clock.value ∧ t.clock.isSet = s.clock.isSet ∧ t.clock.rollover = s.clock.rollover ∧
    t.clock.nextAdvance = s.clock.nextAdvance ∧ t.register = s.register ∧ t.engine = s.engine ∧ t.ledger = s.ledger ∧
    t.link = s.link ∧ t.power = s.power ∧ t.water = s.water ∧ t.fuel = s.fuel ∧ t.access.gates = s.access.gates ∧
    t.access.officeRelease = s.access.officeRelease ∧ t.access.log = s.access.log ∧
    t.access.nextPosition = s.access.nextPosition ∧ t.access.nextSequence = s.access.nextSequence ∧ t.lines = s.lines ∧
    t.room = s.room := by dsimp only; unfold endGuests; (try dsimp only); (repeat' split) <;> simp

@[simp] theorem arriveAt_frame (y : StayId) (b : BerthId) (cause : ArrivalCause) (s : State) :
    let t := (arriveAt y b cause s)
    t.pending = s.pending ∧ t.part = s.part ∧ t.trunk.node = s.trunk.node ∧ t.trunk.owed = s.trunk.owed ∧
    t.trunk.kept = s.trunk.kept ∧ t.trunk.cursor = s.trunk.cursor ∧ t.trunk.mode = s.trunk.mode ∧
    t.trunk.cause = s.trunk.cause ∧ t.trunk.commandStart = s.trunk.commandStart ∧ t.settings = s.settings ∧
    t.clock = s.clock ∧ t.register.pontoons = s.register.pontoons ∧ t.register.arrivals = s.register.arrivals ∧
    t.engine = s.engine ∧ t.ledger = s.ledger ∧ t.link.filter = s.link.filter ∧ t.power.feeders = s.power.feeders ∧
    t.power.programs = s.power.programs ∧ t.water = s.water ∧ t.fuel = s.fuel ∧ t.access = s.access ∧ t.lines = s.lines ∧
    t.room = s.room := by dsimp only; unfold arriveAt; (try dsimp only); (repeat' split) <;> simp

@[simp] theorem autoArrive_frame (y : StayId) (b : BerthId) (cause : ArrivalCause) (s : State) :
    let t := (autoArrive y b cause s)
    t.pending = s.pending ∧ t.part = s.part ∧ t.trunk.node = s.trunk.node ∧ t.trunk.owed = s.trunk.owed ∧
    t.trunk.kept = s.trunk.kept ∧ t.trunk.cursor = s.trunk.cursor ∧ t.trunk.mode = s.trunk.mode ∧
    t.trunk.cause = s.trunk.cause ∧ t.trunk.commandStart = s.trunk.commandStart ∧ t.settings = s.settings ∧
    t.clock = s.clock ∧ t.register.pontoons = s.register.pontoons ∧ t.register.arrivals = s.register.arrivals ∧
    t.engine = s.engine ∧ t.ledger = s.ledger ∧ t.link.filter = s.link.filter ∧ t.power.feeders = s.power.feeders ∧
    t.power.programs = s.power.programs ∧ t.water = s.water ∧ t.fuel = s.fuel ∧ t.access = s.access ∧ t.lines = s.lines ∧
    t.room = s.room := by dsimp only; unfold autoArrive; (try dsimp only); (repeat' split) <;> simp

@[simp] theorem endClearing_frame (b : BerthId) (s : State) :
    let t := (endClearing b s)
    t.pending = s.pending ∧ t.part = s.part ∧ t.trunk.node = s.trunk.node ∧ t.trunk.owed = s.trunk.owed ∧
    t.trunk.kept = s.trunk.kept ∧ t.trunk.cursor = s.trunk.cursor ∧ t.trunk.mode = s.trunk.mode ∧
    t.trunk.cause = s.trunk.cause ∧ t.trunk.commandStart = s.trunk.commandStart ∧ t.settings = s.settings ∧
    t.clock.value = s.clock.value ∧ t.clock.isSet = s.clock.isSet ∧ t.clock.rollover = s.clock.rollover ∧
    t.clock.nextAdvance = s.clock.nextAdvance ∧ t.register.pontoons = s.register.pontoons ∧
    t.register.arrivals = s.register.arrivals ∧ t.ledger = s.ledger ∧ t.link.filter = s.link.filter ∧
    t.link.waterShown = s.link.waterShown ∧ t.power.feeders = s.power.feeders ∧ t.power.programs = s.power.programs ∧
    t.fuel = s.fuel ∧ t.access = s.access ∧ t.lines = s.lines ∧ t.room = s.room := by dsimp only; unfold endClearing; (try dsimp only); (repeat' split) <;> simp

@[simp] theorem beginClearing_frame (b : BerthId) (departing : Option StayId) (s : State) :
    let t := (beginClearing b departing s)
    t.pending = s.pending ∧ t.part = s.part ∧ t.trunk = s.trunk ∧ t.settings = s.settings ∧ t.clock = s.clock ∧
    t.register.pontoons = s.register.pontoons ∧ t.register.stays = s.register.stays ∧
    t.register.arrivals = s.register.arrivals ∧ t.engine = s.engine ∧ t.ledger = s.ledger ∧
    t.link.filter = s.link.filter ∧ t.power.feeders = s.power.feeders ∧ t.power.programs = s.power.programs ∧
    t.fuel = s.fuel ∧ t.access = s.access ∧ t.lines = s.lines ∧ t.room = s.room := by dsimp only; unfold beginClearing; (try dsimp only); (repeat' split) <;> simp

@[simp] theorem dropOutstanding_frame (b : BerthId) (i : ReadItem) (s : State) :
    let t := (dropOutstanding b i s)
    t.pending = s.pending ∧ t.part = s.part ∧ t.trunk.node = s.trunk.node ∧ t.trunk.owed = s.trunk.owed ∧
    t.trunk.kept = s.trunk.kept ∧ t.trunk.cursor = s.trunk.cursor ∧ t.trunk.mode = s.trunk.mode ∧
    t.trunk.cause = s.trunk.cause ∧ t.trunk.commandStart = s.trunk.commandStart ∧ t.settings = s.settings ∧
    t.clock.value = s.clock.value ∧ t.clock.isSet = s.clock.isSet ∧ t.clock.rollover = s.clock.rollover ∧
    t.clock.nextAdvance = s.clock.nextAdvance ∧ t.register.pontoons = s.register.pontoons ∧
    t.register.arrivals = s.register.arrivals ∧ t.ledger = s.ledger ∧ t.link.filter = s.link.filter ∧
    t.link.waterShown = s.link.waterShown ∧ t.power.feeders = s.power.feeders ∧ t.power.programs = s.power.programs ∧
    t.fuel = s.fuel ∧ t.access = s.access ∧ t.lines = s.lines ∧ t.room = s.room := by dsimp only; unfold dropOutstanding; (try dsimp only); (repeat' split) <;> simp

@[simp] theorem reportFinalRead_frame (i : ReadItem) (s : State) :
    let t := (reportFinalRead i s)
    t.pending = s.pending ∧ t.part = s.part ∧ t.trunk.node = s.trunk.node ∧ t.trunk.owed = s.trunk.owed ∧
    t.trunk.kept = s.trunk.kept ∧ t.trunk.cursor = s.trunk.cursor ∧ t.trunk.mode = s.trunk.mode ∧
    t.trunk.cause = s.trunk.cause ∧ t.trunk.commandStart = s.trunk.commandStart ∧ t.settings = s.settings ∧
    t.clock.value = s.clock.value ∧ t.clock.isSet = s.clock.isSet ∧ t.clock.rollover = s.clock.rollover ∧
    t.clock.nextAdvance = s.clock.nextAdvance ∧ t.register.pontoons = s.register.pontoons ∧
    t.register.arrivals = s.register.arrivals ∧ t.ledger = s.ledger ∧ t.link.filter = s.link.filter ∧
    t.link.waterShown = s.link.waterShown ∧ t.power.feeders = s.power.feeders ∧ t.power.programs = s.power.programs ∧
    t.fuel = s.fuel ∧ t.access = s.access ∧ t.lines = s.lines ∧ t.room = s.room := by dsimp only; unfold reportFinalRead; (try dsimp only); (repeat' split) <;> simp

@[simp] theorem settleItem_frame (i : ReadItem) (s : State) :
    let t := (settleItem i s)
    t.pending = s.pending ∧ t.part = s.part ∧ t.trunk = s.trunk ∧ t.settings = s.settings ∧ t.clock = s.clock ∧
    t.register = s.register ∧ t.engine = s.engine ∧ t.ledger = s.ledger ∧ t.link = s.link ∧
    t.power.feeders = s.power.feeders ∧ t.power.starts = s.power.starts ∧ t.power.programs = s.power.programs ∧
    t.fuel = s.fuel ∧ t.access = s.access ∧ t.lines = s.lines ∧ t.room = s.room := by dsimp only; unfold settleItem; (try dsimp only); (repeat' split) <;> simp

@[simp] theorem noteOverstay_frame (y : StayId) (s : State) :
    let t := (noteOverstay y s)
    t.pending = s.pending ∧ t.part = s.part ∧ t.trunk.node = s.trunk.node ∧ t.trunk.owed = s.trunk.owed ∧
    t.trunk.kept = s.trunk.kept ∧ t.trunk.cursor = s.trunk.cursor ∧ t.trunk.mode = s.trunk.mode ∧
    t.trunk.cause = s.trunk.cause ∧ t.trunk.commandStart = s.trunk.commandStart ∧ t.settings = s.settings ∧
    t.clock = s.clock ∧ t.register.pontoons = s.register.pontoons ∧ t.register.berths = s.register.berths ∧
    t.register.arrivals = s.register.arrivals ∧ t.engine = s.engine ∧ t.ledger = s.ledger ∧ t.link = s.link ∧
    t.power = s.power ∧ t.water = s.water ∧ t.fuel = s.fuel ∧ t.access = s.access ∧ t.lines = s.lines ∧ t.room = s.room := by dsimp only; unfold noteOverstay; (try dsimp only); (repeat' split) <;> simp

@[simp] theorem departureRewritten_frame (y : StayId) (s : State) :
    let t := (departureRewritten y s)
    t.pending = s.pending ∧ t.part = s.part ∧ t.trunk.node = s.trunk.node ∧ t.trunk.owed = s.trunk.owed ∧
    t.trunk.kept = s.trunk.kept ∧ t.trunk.cursor = s.trunk.cursor ∧ t.trunk.mode = s.trunk.mode ∧
    t.trunk.cause = s.trunk.cause ∧ t.trunk.commandStart = s.trunk.commandStart ∧ t.settings = s.settings ∧
    t.clock.value = s.clock.value ∧ t.clock.isSet = s.clock.isSet ∧ t.clock.rollover = s.clock.rollover ∧
    t.clock.nextAdvance = s.clock.nextAdvance ∧ t.register.pontoons = s.register.pontoons ∧ t.register.berths = s.register.berths ∧
    t.register.arrivals = s.register.arrivals ∧ t.engine = s.engine ∧ t.ledger = s.ledger ∧ t.link = s.link ∧
    t.power = s.power ∧ t.water = s.water ∧ t.fuel = s.fuel ∧ t.access = s.access ∧ t.lines = s.lines ∧ t.room = s.room := by dsimp only; unfold departureRewritten; (try dsimp only); (repeat' split) <;> simp

/-! ### Feeders -/

@[simp] theorem queuedToShed_frame (o : OutletId) (s : State) :
    let t := (queuedToShed o s)
    t.pending = s.pending ∧ t.part = s.part ∧ t.trunk = s.trunk ∧ t.settings = s.settings ∧ t.clock = s.clock ∧
    t.register = s.register ∧ t.engine = s.engine ∧ t.ledger = s.ledger ∧ t.link.branches = s.link.branches ∧
    t.link.filter = s.link.filter ∧ t.link.waterShown = s.link.waterShown ∧ t.power.feeders = s.power.feeders ∧
    t.power.programs = s.power.programs ∧ t.water = s.water ∧ t.fuel = s.fuel ∧ t.access = s.access ∧ t.lines = s.lines ∧
    t.room = s.room := by dsimp only; unfold queuedToShed; (try dsimp only); (repeat' split) <;> simp

@[simp] theorem withdrawOutlet_frame (p : PontoonId) (o : OutletId) (s : State) :
    let t := (withdrawOutlet p o s)
    t.pending = s.pending ∧ t.part = s.part ∧ t.trunk = s.trunk ∧ t.settings = s.settings ∧ t.clock = s.clock ∧
    t.register = s.register ∧ t.engine = s.engine ∧ t.ledger = s.ledger ∧ t.link.filter = s.link.filter ∧
    t.link.waterShown = s.link.waterShown ∧ t.power.feeders = s.power.feeders ∧ t.power.programs = s.power.programs ∧
    t.water = s.water ∧ t.fuel = s.fuel ∧ t.access = s.access ∧ t.lines = s.lines ∧ t.room = s.room := by dsimp only; unfold withdrawOutlet; (try dsimp only); (repeat' split) <;> simp

@[simp] theorem withdrawClasses_frame (p : PontoonId) (mask : ClassSet) (s : State) :
    let t := (withdrawClasses p mask s)
    t.pending = s.pending ∧ t.part = s.part ∧ t.trunk = s.trunk ∧ t.settings = s.settings ∧ t.clock = s.clock ∧
    t.register = s.register ∧ t.engine = s.engine ∧ t.ledger = s.ledger ∧ t.link.filter = s.link.filter ∧
    t.link.waterShown = s.link.waterShown ∧ t.power.programs = s.power.programs ∧ t.water = s.water ∧ t.fuel = s.fuel ∧
    t.access = s.access ∧ t.lines = s.lines ∧ t.room = s.room := by dsimp only; unfold withdrawClasses; (try dsimp only); (repeat' split) <;> simp

@[simp] theorem admitClasses_frame (p : PontoonId) (mask : ClassSet) (s : State) :
    let t := (admitClasses p mask s)
    t.pending = s.pending ∧ t.part = s.part ∧ t.trunk = s.trunk ∧ t.settings = s.settings ∧ t.clock = s.clock ∧
    t.register = s.register ∧ t.engine = s.engine ∧ t.ledger = s.ledger ∧ t.link.filter = s.link.filter ∧
    t.link.waterShown = s.link.waterShown ∧ t.power.programs = s.power.programs ∧ t.water = s.water ∧ t.fuel = s.fuel ∧
    t.access = s.access ∧ t.lines = s.lines ∧ t.room = s.room := by dsimp only; unfold admitClasses; (try dsimp only); (repeat' split) <;> simp

@[simp] theorem applyStep_frame (restore : Bool) (p : PontoonId) (mask : ClassSet) (s : State) :
    let t := (applyStep restore p mask s)
    t.pending = s.pending ∧ t.part = s.part ∧ t.trunk = s.trunk ∧ t.settings = s.settings ∧ t.clock = s.clock ∧
    t.register = s.register ∧ t.engine = s.engine ∧ t.ledger = s.ledger ∧ t.link.filter = s.link.filter ∧
    t.link.waterShown = s.link.waterShown ∧ t.power.programs = s.power.programs ∧ t.water = s.water ∧ t.fuel = s.fuel ∧
    t.access = s.access ∧ t.lines = s.lines ∧ t.room = s.room := by dsimp only; unfold applyStep; (try dsimp only); (repeat' split) <;> simp

@[simp] theorem walkProgram_frame (v0 : Nat) (v1 : Bool) (v2 : PontoonId) (v3 : Fin 8) (s : State) :
    let t := (walkProgram v0 v1 v2 v3 s).2
    t.pending = s.pending ∧ t.part = s.part ∧ t.trunk = s.trunk ∧ t.settings = s.settings ∧ t.clock = s.clock ∧
    t.register = s.register ∧ t.engine = s.engine ∧ t.ledger = s.ledger ∧ t.link.filter = s.link.filter ∧
    t.link.waterShown = s.link.waterShown ∧ t.power.programs = s.power.programs ∧ t.water = s.water ∧ t.fuel = s.fuel ∧
    t.access = s.access ∧ t.lines = s.lines ∧ t.room = s.room := by
  dsimp only
  induction v0 generalizing v1 v2 v3 s with
  | zero => simp [walkProgram]
  | succ n ih =>
    unfold walkProgram
    simp only []
    (repeat' split) <;> simp [ih]

@[simp] theorem noteFeeder_frame (p : PontoonId) (cause : FeederCause) (s : State) :
    let t := (noteFeeder p cause s)
    t.pending = s.pending ∧ t.part = s.part ∧ t.trunk.node = s.trunk.node ∧ t.trunk.owed = s.trunk.owed ∧
    t.trunk.kept = s.trunk.kept ∧ t.trunk.cursor = s.trunk.cursor ∧ t.trunk.mode = s.trunk.mode ∧
    t.trunk.cause = s.trunk.cause ∧ t.trunk.commandStart = s.trunk.commandStart ∧ t.settings = s.settings ∧
    t.clock = s.clock ∧ t.register = s.register ∧ t.engine = s.engine ∧ t.ledger = s.ledger ∧ t.link = s.link ∧
    t.power = s.power ∧ t.water = s.water ∧ t.fuel = s.fuel ∧ t.access = s.access ∧ t.lines = s.lines ∧ t.room = s.room := by dsimp only; unfold noteFeeder; (try dsimp only); (repeat' split) <;> simp

@[simp] theorem endProgram_frame (restore : Bool) (p : PontoonId) (s : State) :
    let t := (endProgram restore p s)
    t.pending = s.pending ∧ t.part = s.part ∧ t.trunk.node = s.trunk.node ∧ t.trunk.owed = s.trunk.owed ∧
    t.trunk.kept = s.trunk.kept ∧ t.trunk.cursor = s.trunk.cursor ∧ t.trunk.mode = s.trunk.mode ∧
    t.trunk.cause = s.trunk.cause ∧ t.trunk.commandStart = s.trunk.commandStart ∧ t.settings = s.settings ∧
    t.clock = s.clock ∧ t.register = s.register ∧ t.engine = s.engine ∧ t.ledger = s.ledger ∧
    t.link.filter = s.link.filter ∧ t.link.waterShown = s.link.waterShown ∧ t.power.programs = s.power.programs ∧
    t.water = s.water ∧ t.fuel = s.fuel ∧ t.access = s.access ∧ t.lines = s.lines ∧ t.room = s.room := by dsimp only; unfold endProgram; (try dsimp only); (repeat' split) <;> simp

@[simp] theorem startProgram_frame (restore : Bool) (p : PontoonId) (cause : FeederCause) (shedCause : Option ShedCause) (s : State) :
    let t := (startProgram restore p cause shedCause s)
    t.pending = s.pending ∧ t.part = s.part ∧ t.trunk.node = s.trunk.node ∧ t.trunk.owed = s.trunk.owed ∧
    t.trunk.kept = s.trunk.kept ∧ t.trunk.cursor = s.trunk.cursor ∧ t.trunk.mode = s.trunk.mode ∧
    t.trunk.cause = s.trunk.cause ∧ t.trunk.commandStart = s.trunk.commandStart ∧ t.settings = s.settings ∧
    t.clock = s.clock ∧ t.register = s.register ∧ t.engine = s.engine ∧ t.ledger = s.ledger ∧
    t.link.filter = s.link.filter ∧ t.link.waterShown = s.link.waterShown ∧ t.power.programs = s.power.programs ∧
    t.water = s.water ∧ t.fuel = s.fuel ∧ t.access = s.access ∧ t.lines = s.lines ∧ t.room = s.room := by dsimp only; unfold startProgram; (try dsimp only); (repeat' split) <;> simp

@[simp] theorem stepTimerExpires_frame (p : PontoonId) (s : State) :
    let t := (stepTimerExpires p s)
    t.pending = s.pending ∧ t.part.condition = s.part.condition ∧ t.part.retentionAgrees = s.part.retentionAgrees ∧
    t.part.setupStrapLow = s.part.setupStrapLow ∧ t.part.resetLow = s.part.resetLow ∧ t.part.draws = s.part.draws ∧ t.trunk.node = s.trunk.node ∧
    t.trunk.owed = s.trunk.owed ∧ t.trunk.kept = s.trunk.kept ∧ t.trunk.cursor = s.trunk.cursor ∧
    t.trunk.mode = s.trunk.mode ∧ t.trunk.cause = s.trunk.cause ∧ t.trunk.commandStart = s.trunk.commandStart ∧
    t.settings = s.settings ∧ t.clock = s.clock ∧ t.register = s.register ∧ t.engine = s.engine ∧ t.ledger = s.ledger ∧
    t.link.filter = s.link.filter ∧ t.link.waterShown = s.link.waterShown ∧ t.power.programs = s.power.programs ∧
    t.water = s.water ∧ t.fuel = s.fuel ∧ t.access = s.access ∧ t.lines = s.lines ∧ t.room = s.room := by dsimp only; unfold stepTimerExpires; (try dsimp only); (repeat' split) <;> simp

@[simp] theorem feederFault_frame (p : PontoonId) (shed : ShedCause) (cause : FeederCause) (s : State) :
    let t := (feederFault p shed cause s)
    t.pending = s.pending ∧ t.part = s.part ∧ t.trunk.node = s.trunk.node ∧ t.trunk.owed = s.trunk.owed ∧
    t.trunk.kept = s.trunk.kept ∧ t.trunk.cursor = s.trunk.cursor ∧ t.trunk.mode = s.trunk.mode ∧
    t.trunk.cause = s.trunk.cause ∧ t.trunk.commandStart = s.trunk.commandStart ∧ t.settings = s.settings ∧
    t.clock = s.clock ∧ t.register = s.register ∧ t.engine = s.engine ∧ t.ledger = s.ledger ∧
    t.link.filter = s.link.filter ∧ t.link.waterShown = s.link.waterShown ∧ t.power.programs = s.power.programs ∧
    t.water = s.water ∧ t.fuel = s.fuel ∧ t.access = s.access ∧ t.lines = s.lines ∧ t.room = s.room := by dsimp only; unfold feederFault; (try dsimp only); (repeat' split) <;> simp

@[simp] theorem feederRecovery_frame (p : PontoonId) (s : State) :
    let t := (feederRecovery p s)
    t.pending = s.pending ∧ t.part = s.part ∧ t.trunk.node = s.trunk.node ∧ t.trunk.owed = s.trunk.owed ∧
    t.trunk.kept = s.trunk.kept ∧ t.trunk.cursor = s.trunk.cursor ∧ t.trunk.mode = s.trunk.mode ∧
    t.trunk.cause = s.trunk.cause ∧ t.trunk.commandStart = s.trunk.commandStart ∧ t.settings = s.settings ∧
    t.clock = s.clock ∧ t.register = s.register ∧ t.engine = s.engine ∧ t.ledger = s.ledger ∧
    t.link.filter = s.link.filter ∧ t.link.waterShown = s.link.waterShown ∧ t.power.programs = s.power.programs ∧
    t.water = s.water ∧ t.fuel = s.fuel ∧ t.access = s.access ∧ t.lines = s.lines ∧ t.room = s.room := by dsimp only; unfold feederRecovery; (try dsimp only); (repeat' split) <;> simp

@[simp] theorem cutOutlet_frame (o : OutletId) (s : State) :
    let t := (cutOutlet o s)
    t.pending = s.pending ∧ t.part = s.part ∧ t.trunk = s.trunk ∧ t.settings = s.settings ∧ t.clock = s.clock ∧
    t.register = s.register ∧ t.engine = s.engine ∧ t.ledger = s.ledger ∧ t.link.filter = s.link.filter ∧
    t.link.waterShown = s.link.waterShown ∧ t.power.feeders = s.power.feeders ∧ t.power.programs = s.power.programs ∧
    t.water = s.water ∧ t.fuel = s.fuel ∧ t.access = s.access ∧ t.lines = s.lines ∧ t.room = s.room := by dsimp only; unfold cutOutlet; (try dsimp only); (repeat' split) <;> simp

@[simp] theorem breakerOpens_frame (p : PontoonId) (s : State) :
    let t := (breakerOpens p s)
    t.pending = s.pending ∧ t.part = s.part ∧ t.trunk.node = s.trunk.node ∧ t.trunk.owed = s.trunk.owed ∧
    t.trunk.kept = s.trunk.kept ∧ t.trunk.cursor = s.trunk.cursor ∧ t.trunk.mode = s.trunk.mode ∧
    t.trunk.cause = s.trunk.cause ∧ t.trunk.commandStart = s.trunk.commandStart ∧ t.settings = s.settings ∧
    t.clock = s.clock ∧ t.register = s.register ∧ t.engine = s.engine ∧ t.ledger = s.ledger ∧
    t.link.filter = s.link.filter ∧ t.link.waterShown = s.link.waterShown ∧ t.power.programs = s.power.programs ∧
    t.water = s.water ∧ t.fuel = s.fuel ∧ t.access = s.access ∧ t.lines = s.lines ∧ t.room = s.room := by dsimp only; unfold breakerOpens; (try dsimp only); (repeat' split) <;> simp

@[simp] theorem breakerCloses_frame (p : PontoonId) (s : State) :
    let t := (breakerCloses p s)
    t.pending = s.pending ∧ t.part = s.part ∧ t.trunk.node = s.trunk.node ∧ t.trunk.owed = s.trunk.owed ∧
    t.trunk.kept = s.trunk.kept ∧ t.trunk.cursor = s.trunk.cursor ∧ t.trunk.mode = s.trunk.mode ∧
    t.trunk.cause = s.trunk.cause ∧ t.trunk.commandStart = s.trunk.commandStart ∧ t.settings = s.settings ∧
    t.clock = s.clock ∧ t.register = s.register ∧ t.engine = s.engine ∧ t.ledger = s.ledger ∧
    t.link.filter = s.link.filter ∧ t.link.waterShown = s.link.waterShown ∧ t.power.programs = s.power.programs ∧
    t.water = s.water ∧ t.fuel = s.fuel ∧ t.access = s.access ∧ t.lines = s.lines ∧ t.room = s.room := by dsimp only; unfold breakerCloses; (try dsimp only); (repeat' split) <;> simp

@[simp] theorem takeMonitorReport_frame (p : PontoonId) (voltage : Nat) (current : Nat) (breakerIsOpen : Bool) (s : State) :
    let t := (takeMonitorReport p voltage current breakerIsOpen s)
    t.pending = s.pending ∧ t.part = s.part ∧ t.trunk.node = s.trunk.node ∧ t.trunk.owed = s.trunk.owed ∧
    t.trunk.kept = s.trunk.kept ∧ t.trunk.cursor = s.trunk.cursor ∧ t.trunk.mode = s.trunk.mode ∧
    t.trunk.cause = s.trunk.cause ∧ t.trunk.commandStart = s.trunk.commandStart ∧ t.settings = s.settings ∧
    t.clock = s.clock ∧ t.register = s.register ∧ t.engine = s.engine ∧ t.ledger = s.ledger ∧
    t.link.filter = s.link.filter ∧ t.link.waterShown = s.link.waterShown ∧ t.power.programs = s.power.programs ∧
    t.water = s.water ∧ t.fuel = s.fuel ∧ t.access = s.access ∧ t.lines = s.lines ∧ t.room = s.room := by dsimp only; unfold takeMonitorReport; (try dsimp only); (repeat' split) <;> simp

@[simp] theorem monitorStationChanged_frame (p : PontoonId) (s : State) :
    let t := (monitorStationChanged p s)
    t.pending = s.pending ∧ t.part = s.part ∧ t.trunk = s.trunk ∧ t.settings = s.settings ∧ t.clock = s.clock ∧
    t.register = s.register ∧ t.engine = s.engine ∧ t.ledger = s.ledger ∧ t.link = s.link ∧
    t.power.outlets = s.power.outlets ∧ t.power.starts = s.power.starts ∧ t.power.programs = s.power.programs ∧
    t.water = s.water ∧ t.fuel = s.fuel ∧ t.access = s.access ∧ t.lines = s.lines ∧ t.room = s.room := by dsimp only; unfold monitorStationChanged; (try dsimp only); (repeat' split) <;> simp

/-! ### Posts -/

@[simp] theorem readOutlet_frame (o : OutletId) (e : OutletEntry) (s : State) :
    let t := (readOutlet o e s)
    t.pending = s.pending ∧ t.part = s.part ∧ t.trunk.node = s.trunk.node ∧ t.trunk.owed = s.trunk.owed ∧
    t.trunk.kept = s.trunk.kept ∧ t.trunk.cursor = s.trunk.cursor ∧ t.trunk.mode = s.trunk.mode ∧
    t.trunk.cause = s.trunk.cause ∧ t.trunk.commandStart = s.trunk.commandStart ∧ t.settings = s.settings ∧
    t.clock.value = s.clock.value ∧ t.clock.isSet = s.clock.isSet ∧ t.clock.rollover = s.clock.rollover ∧
    t.clock.nextAdvance = s.clock.nextAdvance ∧ t.register.pontoons = s.register.pontoons ∧
    t.register.arrivals = s.register.arrivals ∧ t.ledger.holds = s.ledger.holds ∧ t.ledger.tariff = s.ledger.tariff ∧
    t.ledger.rolloverDay = s.ledger.rolloverDay ∧ t.ledger.pass = s.ledger.pass ∧ t.link.filter = s.link.filter ∧
    t.power.feeders = s.power.feeders ∧ t.power.programs = s.power.programs ∧ t.fuel = s.fuel ∧ t.access = s.access ∧
    t.lines = s.lines ∧ t.room = s.room := by dsimp only; unfold readOutlet; (try dsimp only); (repeat' split) <;> simp

@[simp] theorem resumeOutlet_frame (o : OutletId) (s : State) :
    let t := (resumeOutlet o s)
    t.pending = s.pending ∧ t.part = s.part ∧ t.trunk = s.trunk ∧ t.settings = s.settings ∧ t.clock = s.clock ∧
    t.register = s.register ∧ t.engine = s.engine ∧ t.ledger = s.ledger ∧ t.link.filter = s.link.filter ∧
    t.link.waterShown = s.link.waterShown ∧ t.power.feeders = s.power.feeders ∧ t.power.programs = s.power.programs ∧
    t.water = s.water ∧ t.fuel = s.fuel ∧ t.access = s.access ∧ t.lines = s.lines ∧ t.room = s.room := by dsimp only; unfold resumeOutlet; (try dsimp only); (repeat' split) <;> simp

@[simp] theorem resyncStep_frame (o : OutletId) (e : OutletEntry) (s : State) :
    let t := (resyncStep o e s)
    t.pending = s.pending ∧ t.part = s.part ∧ t.trunk = s.trunk ∧ t.settings = s.settings ∧ t.clock = s.clock ∧
    t.register = s.register ∧ t.engine = s.engine ∧ t.ledger = s.ledger ∧ t.link.filter = s.link.filter ∧
    t.link.waterShown = s.link.waterShown ∧ t.power.feeders = s.power.feeders ∧ t.power.programs = s.power.programs ∧
    t.water = s.water ∧ t.fuel = s.fuel ∧ t.access = s.access ∧ t.lines = s.lines ∧ t.room = s.room := by dsimp only; unfold resyncStep; (try dsimp only); (repeat' split) <;> simp

@[simp] theorem postTripCause_frame (e : OutletEntry) (s : State) :
    let t := (postTripCause e s).2
    t.pending = s.pending ∧ t.part.condition = s.part.condition ∧ t.part.timeBase = s.part.timeBase ∧
    t.part.retentionAgrees = s.part.retentionAgrees ∧ t.part.setupStrapLow = s.part.setupStrapLow ∧ t.part.resetLow = s.part.resetLow ∧ t.trunk = s.trunk ∧
    t.settings = s.settings ∧ t.clock = s.clock ∧ t.register = s.register ∧ t.engine = s.engine ∧ t.ledger = s.ledger ∧
    t.link = s.link ∧ t.power = s.power ∧ t.water = s.water ∧ t.fuel = s.fuel ∧ t.access = s.access ∧ t.lines = s.lines ∧
    t.room = s.room := by dsimp only; unfold postTripCause; (try dsimp only); (repeat' split) <;> simp

@[simp] theorem postTripStep_frame (o : OutletId) (e : OutletEntry) (s : State) :
    let t := (postTripStep o e s)
    t.pending = s.pending ∧ t.part.condition = s.part.condition ∧ t.part.timeBase = s.part.timeBase ∧
    t.part.retentionAgrees = s.part.retentionAgrees ∧ t.part.setupStrapLow = s.part.setupStrapLow ∧ t.part.resetLow = s.part.resetLow ∧
    t.trunk.node = s.trunk.node ∧ t.trunk.owed = s.trunk.owed ∧ t.trunk.kept = s.trunk.kept ∧
    t.trunk.cursor = s.trunk.cursor ∧ t.trunk.mode = s.trunk.mode ∧ t.trunk.cause = s.trunk.cause ∧
    t.trunk.commandStart = s.trunk.commandStart ∧ t.settings = s.settings ∧ t.clock.value = s.clock.value ∧
    t.clock.isSet = s.clock.isSet ∧ t.clock.rollover = s.clock.rollover ∧ t.clock.nextAdvance = s.clock.nextAdvance ∧
    t.register.pontoons = s.register.pontoons ∧ t.register.arrivals = s.register.arrivals ∧ t.ledger = s.ledger ∧
    t.link.filter = s.link.filter ∧ t.link.waterShown = s.link.waterShown ∧ t.power.feeders = s.power.feeders ∧
    t.power.programs = s.power.programs ∧ t.fuel = s.fuel ∧ t.access = s.access ∧ t.lines = s.lines ∧ t.room = s.room := by dsimp only; unfold postTripStep; (try dsimp only); (repeat' split) <;> simp

@[simp] theorem plugArrival_frame (o : OutletId) (s : State) :
    let t := (plugArrival o s)
    t.pending = s.pending ∧ t.part = s.part ∧ t.trunk.node = s.trunk.node ∧ t.trunk.owed = s.trunk.owed ∧
    t.trunk.kept = s.trunk.kept ∧ t.trunk.cursor = s.trunk.cursor ∧ t.trunk.mode = s.trunk.mode ∧
    t.trunk.cause = s.trunk.cause ∧ t.trunk.commandStart = s.trunk.commandStart ∧ t.settings = s.settings ∧
    t.clock = s.clock ∧ t.register.pontoons = s.register.pontoons ∧ t.register.arrivals = s.register.arrivals ∧
    t.engine = s.engine ∧ t.ledger = s.ledger ∧ t.link.filter = s.link.filter ∧ t.power.feeders = s.power.feeders ∧
    t.power.programs = s.power.programs ∧ t.water = s.water ∧ t.fuel = s.fuel ∧ t.access = s.access ∧ t.lines = s.lines ∧
    t.room = s.room := by dsimp only; unfold plugArrival; (try dsimp only); (repeat' split) <;> simp

@[simp] theorem plugInserted_frame (o : OutletId) (s : State) :
    let t := (plugInserted o s)
    t.pending = s.pending ∧ t.part = s.part ∧ t.trunk.node = s.trunk.node ∧ t.trunk.owed = s.trunk.owed ∧
    t.trunk.kept = s.trunk.kept ∧ t.trunk.cursor = s.trunk.cursor ∧ t.trunk.mode = s.trunk.mode ∧
    t.trunk.cause = s.trunk.cause ∧ t.trunk.commandStart = s.trunk.commandStart ∧ t.settings = s.settings ∧
    t.clock = s.clock ∧ t.register.pontoons = s.register.pontoons ∧ t.register.arrivals = s.register.arrivals ∧
    t.engine = s.engine ∧ t.ledger = s.ledger ∧ t.link.filter = s.link.filter ∧ t.power.feeders = s.power.feeders ∧
    t.power.programs = s.power.programs ∧ t.water = s.water ∧ t.fuel = s.fuel ∧ t.access = s.access ∧ t.lines = s.lines ∧
    t.room = s.room := by dsimp only; unfold plugInserted; (try dsimp only); (repeat' split) <;> simp

@[simp] theorem plugRemoved_frame (o : OutletId) (s : State) :
    let t := (plugRemoved o s)
    t.pending = s.pending ∧ t.part = s.part ∧ t.trunk.node = s.trunk.node ∧ t.trunk.owed = s.trunk.owed ∧
    t.trunk.kept = s.trunk.kept ∧ t.trunk.cursor = s.trunk.cursor ∧ t.trunk.mode = s.trunk.mode ∧
    t.trunk.cause = s.trunk.cause ∧ t.trunk.commandStart = s.trunk.commandStart ∧ t.settings = s.settings ∧
    t.clock.value = s.clock.value ∧ t.clock.isSet = s.clock.isSet ∧ t.clock.rollover = s.clock.rollover ∧
    t.clock.nextAdvance = s.clock.nextAdvance ∧ t.register.pontoons = s.register.pontoons ∧
    t.register.arrivals = s.register.arrivals ∧ t.ledger = s.ledger ∧ t.link.filter = s.link.filter ∧
    t.link.waterShown = s.link.waterShown ∧ t.power.feeders = s.power.feeders ∧ t.power.programs = s.power.programs ∧
    t.fuel = s.fuel ∧ t.access = s.access ∧ t.lines = s.lines ∧ t.room = s.room := by dsimp only; unfold plugRemoved; (try dsimp only); (repeat' split) <;> simp

@[simp] theorem plugStep_frame (o : OutletId) (e : OutletEntry) (s : State) :
    let t := (plugStep o e s)
    t.pending = s.pending ∧ t.part = s.part ∧ t.trunk.node = s.trunk.node ∧ t.trunk.owed = s.trunk.owed ∧
    t.trunk.kept = s.trunk.kept ∧ t.trunk.cursor = s.trunk.cursor ∧ t.trunk.mode = s.trunk.mode ∧
    t.trunk.cause = s.trunk.cause ∧ t.trunk.commandStart = s.trunk.commandStart ∧ t.settings = s.settings ∧
    t.clock.value = s.clock.value ∧ t.clock.isSet = s.clock.isSet ∧ t.clock.rollover = s.clock.rollover ∧
    t.clock.nextAdvance = s.clock.nextAdvance ∧ t.register.pontoons = s.register.pontoons ∧
    t.register.arrivals = s.register.arrivals ∧ t.ledger = s.ledger ∧ t.link.filter = s.link.filter ∧
    t.power.feeders = s.power.feeders ∧ t.power.programs = s.power.programs ∧ t.fuel = s.fuel ∧ t.access = s.access ∧
    t.lines = s.lines ∧ t.room = s.room := by dsimp only; unfold plugStep; (try dsimp only); (repeat' split) <;> simp

@[simp] theorem confirmStep_frame (o : OutletId) (e : OutletEntry) (s : State) :
    let t := (confirmStep o e s)
    t.pending = s.pending ∧ t.part = s.part ∧ t.trunk.node = s.trunk.node ∧ t.trunk.owed = s.trunk.owed ∧
    t.trunk.kept = s.trunk.kept ∧ t.trunk.cursor = s.trunk.cursor ∧ t.trunk.mode = s.trunk.mode ∧
    t.trunk.cause = s.trunk.cause ∧ t.trunk.commandStart = s.trunk.commandStart ∧ t.settings = s.settings ∧
    t.clock.value = s.clock.value ∧ t.clock.isSet = s.clock.isSet ∧ t.clock.rollover = s.clock.rollover ∧
    t.clock.nextAdvance = s.clock.nextAdvance ∧ t.register.pontoons = s.register.pontoons ∧
    t.register.arrivals = s.register.arrivals ∧ t.ledger = s.ledger ∧ t.link.filter = s.link.filter ∧
    t.link.waterShown = s.link.waterShown ∧ t.power.feeders = s.power.feeders ∧ t.power.programs = s.power.programs ∧
    t.fuel = s.fuel ∧ t.access = s.access ∧ t.lines = s.lines ∧ t.room = s.room := by dsimp only; unfold confirmStep; (try dsimp only); (repeat' split) <;> simp

@[simp] theorem limitStep_frame (o : OutletId) (e : OutletEntry) (s : State) :
    let t := (limitStep o e s)
    t.pending = s.pending ∧ t.part = s.part ∧ t.trunk.node = s.trunk.node ∧ t.trunk.owed = s.trunk.owed ∧
    t.trunk.kept = s.trunk.kept ∧ t.trunk.cursor = s.trunk.cursor ∧ t.trunk.mode = s.trunk.mode ∧
    t.trunk.cause = s.trunk.cause ∧ t.trunk.commandStart = s.trunk.commandStart ∧ t.settings = s.settings ∧
    t.clock = s.clock ∧ t.register = s.register ∧ t.engine = s.engine ∧ t.ledger = s.ledger ∧
    t.link.filter = s.link.filter ∧ t.link.waterShown = s.link.waterShown ∧ t.power.feeders = s.power.feeders ∧
    t.power.programs = s.power.programs ∧ t.water = s.water ∧ t.fuel = s.fuel ∧ t.access = s.access ∧ t.lines = s.lines ∧
    t.room = s.room := by dsimp only; unfold limitStep; (try dsimp only); (repeat' split) <;> simp

@[simp] theorem takeOutletEntry_frame (st : StationId) (k : Fin 4) (e : OutletEntry) (s : State) :
    let t := (takeOutletEntry st k e s)
    t.pending = s.pending ∧ t.part.condition = s.part.condition ∧ t.part.timeBase = s.part.timeBase ∧
    t.part.retentionAgrees = s.part.retentionAgrees ∧ t.part.setupStrapLow = s.part.setupStrapLow ∧ t.part.resetLow = s.part.resetLow ∧
    t.trunk.node = s.trunk.node ∧ t.trunk.owed = s.trunk.owed ∧ t.trunk.kept = s.trunk.kept ∧
    t.trunk.cursor = s.trunk.cursor ∧ t.trunk.mode = s.trunk.mode ∧ t.trunk.cause = s.trunk.cause ∧
    t.trunk.commandStart = s.trunk.commandStart ∧ t.settings = s.settings ∧ t.clock.value = s.clock.value ∧
    t.clock.isSet = s.clock.isSet ∧ t.clock.rollover = s.clock.rollover ∧ t.clock.nextAdvance = s.clock.nextAdvance ∧
    t.register.pontoons = s.register.pontoons ∧ t.register.arrivals = s.register.arrivals ∧
    t.ledger.holds = s.ledger.holds ∧ t.ledger.tariff = s.ledger.tariff ∧ t.ledger.rolloverDay = s.ledger.rolloverDay ∧
    t.ledger.pass = s.ledger.pass ∧ t.link.filter = s.link.filter ∧ t.power.feeders = s.power.feeders ∧
    t.power.programs = s.power.programs ∧ t.fuel = s.fuel ∧ t.access = s.access ∧ t.lines = s.lines ∧ t.room = s.room := by dsimp only; unfold takeOutletEntry; (try dsimp only); (repeat' split) <;> simp

@[simp] theorem readTap_frame (t : TapId) (e : TapEntry) (s : State) :
    let t' := (readTap t e s)
    t'.pending = s.pending ∧ t'.part = s.part ∧ t'.trunk.node = s.trunk.node ∧ t'.trunk.owed = s.trunk.owed ∧
    t'.trunk.kept = s.trunk.kept ∧ t'.trunk.cursor = s.trunk.cursor ∧ t'.trunk.mode = s.trunk.mode ∧
    t'.trunk.cause = s.trunk.cause ∧ t'.trunk.commandStart = s.trunk.commandStart ∧ t'.settings = s.settings ∧
    t'.clock = s.clock ∧ t'.register.pontoons = s.register.pontoons ∧ t'.register.berths = s.register.berths ∧
    t'.register.arrivals = s.register.arrivals ∧ t'.engine = s.engine ∧ t'.ledger.holds = s.ledger.holds ∧
    t'.ledger.tariff = s.ledger.tariff ∧ t'.ledger.rolloverDay = s.ledger.rolloverDay ∧ t'.ledger.pass = s.ledger.pass ∧
    t'.link.filter = s.link.filter ∧ t'.power.feeders = s.power.feeders ∧ t'.power.programs = s.power.programs ∧
    t'.fuel = s.fuel ∧ t'.access = s.access ∧ t'.lines = s.lines ∧ t'.room = s.room := by dsimp only; unfold readTap; (try dsimp only); (repeat' split) <;> simp

@[simp] theorem confirmTap_frame (t : TapId) (owed : Bool) (e : TapEntry) (s : State) :
    let t' := (confirmTap t owed e s)
    t'.pending = s.pending ∧ t'.part = s.part ∧ t'.trunk.node = s.trunk.node ∧ t'.trunk.owed = s.trunk.owed ∧
    t'.trunk.kept = s.trunk.kept ∧ t'.trunk.cursor = s.trunk.cursor ∧ t'.trunk.mode = s.trunk.mode ∧
    t'.trunk.cause = s.trunk.cause ∧ t'.trunk.commandStart = s.trunk.commandStart ∧ t'.settings = s.settings ∧
    t'.clock.value = s.clock.value ∧ t'.clock.isSet = s.clock.isSet ∧ t'.clock.rollover = s.clock.rollover ∧
    t'.clock.nextAdvance = s.clock.nextAdvance ∧ t'.register.pontoons = s.register.pontoons ∧
    t'.register.arrivals = s.register.arrivals ∧ t'.ledger = s.ledger ∧ t'.link.filter = s.link.filter ∧
    t'.link.waterShown = s.link.waterShown ∧ t'.power.feeders = s.power.feeders ∧ t'.power.programs = s.power.programs ∧
    t'.fuel = s.fuel ∧ t'.access = s.access ∧ t'.lines = s.lines ∧ t'.room = s.room := by dsimp only; unfold confirmTap; (try dsimp only); (repeat' split) <;> simp

@[simp] theorem creditTap_frame (t : TapId) (s : State) :
    let t' := (creditTap t s)
    t'.pending = s.pending ∧ t'.part = s.part ∧ t'.trunk = s.trunk ∧ t'.settings = s.settings ∧ t'.clock = s.clock ∧
    t'.register = s.register ∧ t'.engine = s.engine ∧ t'.ledger = s.ledger ∧ t'.link.filter = s.link.filter ∧
    t'.power = s.power ∧ t'.fuel = s.fuel ∧ t'.access = s.access ∧ t'.lines = s.lines ∧ t'.room = s.room := by dsimp only; unfold creditTap; (try dsimp only); (repeat' split) <;> simp

@[simp] theorem leakTest_frame (t : TapId) (idle : Bool) (e : TapEntry) (s : State) :
    let t' := (leakTest t idle e s)
    t'.pending = s.pending ∧ t'.part = s.part ∧ t'.trunk.node = s.trunk.node ∧ t'.trunk.owed = s.trunk.owed ∧
    t'.trunk.kept = s.trunk.kept ∧ t'.trunk.cursor = s.trunk.cursor ∧ t'.trunk.mode = s.trunk.mode ∧
    t'.trunk.cause = s.trunk.cause ∧ t'.trunk.commandStart = s.trunk.commandStart ∧ t'.settings = s.settings ∧
    t'.clock = s.clock ∧ t'.register = s.register ∧ t'.engine = s.engine ∧ t'.ledger = s.ledger ∧
    t'.link.filter = s.link.filter ∧ t'.power = s.power ∧ t'.fuel = s.fuel ∧ t'.access = s.access ∧ t'.lines = s.lines ∧
    t'.room = s.room := by dsimp only; unfold leakTest; (try dsimp only); (repeat' split) <;> simp

@[simp] theorem takeTapEntry_frame (st : StationId) (k : Fin 2) (e : TapEntry) (s : State) :
    let t := (takeTapEntry st k e s)
    t.pending = s.pending ∧ t.part = s.part ∧ t.trunk.node = s.trunk.node ∧ t.trunk.owed = s.trunk.owed ∧
    t.trunk.kept = s.trunk.kept ∧ t.trunk.cursor = s.trunk.cursor ∧ t.trunk.mode = s.trunk.mode ∧
    t.trunk.cause = s.trunk.cause ∧ t.trunk.commandStart = s.trunk.commandStart ∧ t.settings = s.settings ∧
    t.clock.value = s.clock.value ∧ t.clock.isSet = s.clock.isSet ∧ t.clock.rollover = s.clock.rollover ∧
    t.clock.nextAdvance = s.clock.nextAdvance ∧ t.register.pontoons = s.register.pontoons ∧
    t.register.arrivals = s.register.arrivals ∧ t.ledger.holds = s.ledger.holds ∧ t.ledger.tariff = s.ledger.tariff ∧
    t.ledger.rolloverDay = s.ledger.rolloverDay ∧ t.ledger.pass = s.ledger.pass ∧ t.link.filter = s.link.filter ∧
    t.power.feeders = s.power.feeders ∧ t.power.programs = s.power.programs ∧ t.fuel = s.fuel ∧ t.access = s.access ∧
    t.lines = s.lines ∧ t.room = s.room := by dsimp only; unfold takeTapEntry; (try dsimp only); (repeat' split) <;> simp

@[simp] theorem openTap_frame (t : TapId) (y : StayId) (s : State) :
    let t' := (openTap t y s)
    t'.pending = s.pending ∧ t'.part = s.part ∧ t'.trunk = s.trunk ∧ t'.settings = s.settings ∧ t'.clock = s.clock ∧
    t'.register = s.register ∧ t'.engine = s.engine ∧ t'.ledger = s.ledger ∧ t'.link.filter = s.link.filter ∧
    t'.power = s.power ∧ t'.fuel = s.fuel ∧ t'.access = s.access ∧ t'.lines = s.lines ∧ t'.room = s.room := by dsimp only; unfold openTap; (try dsimp only); (repeat' split) <;> simp

@[simp] theorem toggleTap_frame (t : TapId) (s : State) :
    let t' := (toggleTap t s)
    t'.pending = s.pending ∧ t'.part = s.part ∧ t'.trunk = s.trunk ∧ t'.settings = s.settings ∧ t'.clock = s.clock ∧
    t'.register = s.register ∧ t'.engine = s.engine ∧ t'.ledger = s.ledger ∧ t'.link.filter = s.link.filter ∧
    t'.power = s.power ∧ t'.fuel = s.fuel ∧ t'.access = s.access ∧ t'.lines = s.lines ∧ t'.room = s.room := by dsimp only; unfold toggleTap; (try dsimp only); (repeat' split) <;> simp

@[simp] theorem takePostReport_frame (st : StationId) (outlets : List OutletEntry) (taps : List TapEntry) (toggle : Option (Fin 2)) (s : State) :
    let t := (takePostReport st outlets taps toggle s)
    t.pending = s.pending ∧ t.part.condition = s.part.condition ∧ t.part.timeBase = s.part.timeBase ∧
    t.part.retentionAgrees = s.part.retentionAgrees ∧ t.part.setupStrapLow = s.part.setupStrapLow ∧ t.part.resetLow = s.part.resetLow ∧
    t.trunk.node = s.trunk.node ∧ t.trunk.owed = s.trunk.owed ∧ t.trunk.kept = s.trunk.kept ∧
    t.trunk.cursor = s.trunk.cursor ∧ t.trunk.mode = s.trunk.mode ∧ t.trunk.cause = s.trunk.cause ∧
    t.trunk.commandStart = s.trunk.commandStart ∧ t.settings = s.settings ∧ t.clock.value = s.clock.value ∧
    t.clock.isSet = s.clock.isSet ∧ t.clock.rollover = s.clock.rollover ∧ t.clock.nextAdvance = s.clock.nextAdvance ∧
    t.register.pontoons = s.register.pontoons ∧ t.register.arrivals = s.register.arrivals ∧
    t.ledger.holds = s.ledger.holds ∧ t.ledger.tariff = s.ledger.tariff ∧ t.ledger.rolloverDay = s.ledger.rolloverDay ∧
    t.ledger.pass = s.ledger.pass ∧ t.link.filter = s.link.filter ∧ t.power.feeders = s.power.feeders ∧
    t.power.programs = s.power.programs ∧ t.fuel = s.fuel ∧ t.access = s.access ∧ t.lines = s.lines ∧ t.room = s.room := by dsimp only; unfold takePostReport; (try dsimp only); (repeat' split) <;> simp

/-! ### Requests -/

@[simp] theorem owe_frame (a : Answer) (s : State) :
    let t := (owe a s)
    t.pending = s.pending ∧ t.part = s.part ∧ t.trunk.node = s.trunk.node ∧ t.trunk.kept = s.trunk.kept ∧
    t.trunk.cursor = s.trunk.cursor ∧ t.trunk.mode = s.trunk.mode ∧ t.trunk.cause = s.trunk.cause ∧
    t.trunk.commandStart = s.trunk.commandStart ∧ t.trunk.notices = s.trunk.notices ∧ t.trunk.lost = s.trunk.lost ∧
    t.settings = s.settings ∧ t.clock = s.clock ∧ t.register = s.register ∧ t.engine = s.engine ∧ t.ledger = s.ledger ∧
    t.link = s.link ∧ t.power = s.power ∧ t.water = s.water ∧ t.fuel = s.fuel ∧ t.access = s.access ∧ t.lines = s.lines ∧
    t.room = s.room := by dsimp only; unfold owe; (repeat' split) <;> simp [State.room, State.stamp, State.now, State.arrivals, State.stay, State.berth, State.pontoon, State.account, State.holdSlot, State.branch, State.station, State.outlet, State.feeder, State.start, State.tap, State.tank, State.dispenser, State.gate, State.credential, State.signal]

/-! ### Stays -/

@[simp] theorem setOutletBerth_frame (b : Option BerthId) (o : OutletId) (s : State) :
    let t := (setOutletBerth b o s)
    t.pending = s.pending ∧ t.part = s.part ∧ t.trunk = s.trunk ∧ t.settings = s.settings ∧ t.clock = s.clock ∧
    t.register = s.register ∧ t.engine = s.engine ∧ t.ledger = s.ledger ∧ t.link = s.link ∧
    t.power.feeders = s.power.feeders ∧ t.power.starts = s.power.starts ∧ t.power.programs = s.power.programs ∧
    t.water = s.water ∧ t.fuel = s.fuel ∧ t.access = s.access ∧ t.lines = s.lines ∧ t.room = s.room := by dsimp only; unfold setOutletBerth; (try dsimp only); (repeat' split) <;> simp

@[simp] theorem setTapBerth_frame (b : Option BerthId) (t : TapId) (s : State) :
    let t' := (setTapBerth b t s)
    t'.pending = s.pending ∧ t'.part = s.part ∧ t'.trunk = s.trunk ∧ t'.settings = s.settings ∧ t'.clock = s.clock ∧
    t'.register = s.register ∧ t'.engine = s.engine ∧ t'.ledger = s.ledger ∧ t'.link = s.link ∧ t'.power = s.power ∧
    t'.fuel = s.fuel ∧ t'.access = s.access ∧ t'.lines = s.lines ∧ t'.room = s.room := by dsimp only; unfold setTapBerth; (try dsimp only); (repeat' split) <;> simp

@[simp] theorem applyBerthWrite_frame (b : BerthId) (w : BerthSettings) (s0 : State) :
    let t := (applyBerthWrite b w s0)
    t.pending = s0.pending ∧ t.part = s0.part ∧ t.trunk = s0.trunk ∧ t.settings = s0.settings ∧ t.clock = s0.clock ∧
    t.register.pontoons = s0.register.pontoons ∧ t.register.stays = s0.register.stays ∧
    t.register.arrivals = s0.register.arrivals ∧ t.engine = s0.engine ∧ t.ledger = s0.ledger ∧
    t.link.filter = s0.link.filter ∧ t.link.waterShown = s0.link.waterShown ∧ t.power.feeders = s0.power.feeders ∧
    t.power.programs = s0.power.programs ∧ t.fuel = s0.fuel ∧ t.access = s0.access ∧ t.lines = s0.lines ∧ t.room = s0.room := by dsimp only; unfold applyBerthWrite; (try dsimp only); (repeat' split) <;> simp

@[simp] theorem applyStayWrite_frame (y : StayId) (v : StaySettings) (s : State) :
    let t := (applyStayWrite y v s)
    t.pending = s.pending ∧ t.part = s.part ∧ t.trunk.node = s.trunk.node ∧ t.trunk.owed = s.trunk.owed ∧
    t.trunk.kept = s.trunk.kept ∧ t.trunk.cursor = s.trunk.cursor ∧ t.trunk.mode = s.trunk.mode ∧
    t.trunk.cause = s.trunk.cause ∧ t.trunk.commandStart = s.trunk.commandStart ∧ t.settings = s.settings ∧
    t.clock.value = s.clock.value ∧ t.clock.isSet = s.clock.isSet ∧ t.clock.rollover = s.clock.rollover ∧
    t.clock.nextAdvance = s.clock.nextAdvance ∧ t.register.pontoons = s.register.pontoons ∧ t.register.berths = s.register.berths ∧
    t.ledger = s.ledger ∧ t.link.filter = s.link.filter ∧ t.link.waterShown = s.link.waterShown ∧
    t.power.feeders = s.power.feeders ∧ t.power.programs = s.power.programs ∧ t.water = s.water ∧ t.fuel = s.fuel ∧
    t.access = s.access ∧ t.lines = s.lines ∧ t.room = s.room := by dsimp only; unfold applyStayWrite; (try dsimp only); (repeat' split) <;> simp

@[simp] theorem endExpected_frame (y : StayId) (cause : ContendedCause) (s : State) :
    let t := (endExpected y cause s)
    t.pending = s.pending ∧ t.part = s.part ∧ t.trunk.node = s.trunk.node ∧ t.trunk.owed = s.trunk.owed ∧
    t.trunk.kept = s.trunk.kept ∧ t.trunk.cursor = s.trunk.cursor ∧ t.trunk.mode = s.trunk.mode ∧
    t.trunk.cause = s.trunk.cause ∧ t.trunk.commandStart = s.trunk.commandStart ∧ t.settings = s.settings ∧
    t.clock.value = s.clock.value ∧ t.clock.isSet = s.clock.isSet ∧ t.clock.rollover = s.clock.rollover ∧
    t.clock.nextAdvance = s.clock.nextAdvance ∧ t.register.pontoons = s.register.pontoons ∧ t.ledger = s.ledger ∧
    t.link = s.link ∧ t.power = s.power ∧ t.water = s.water ∧ t.fuel = s.fuel ∧ t.access.gates = s.access.gates ∧
    t.access.officeRelease = s.access.officeRelease ∧ t.access.log = s.access.log ∧
    t.access.nextPosition = s.access.nextPosition ∧ t.access.nextSequence = s.access.nextSequence ∧ t.lines = s.lines ∧
    t.room = s.room := by dsimp only; unfold endExpected; (try dsimp only); (repeat' split) <;> simp

@[simp] theorem departFrom_frame (y : StayId) (b : BerthId) (s : State) :
    let t := (departFrom y b s)
    t.pending = s.pending ∧ t.part = s.part ∧ t.trunk.node = s.trunk.node ∧ t.trunk.owed = s.trunk.owed ∧
    t.trunk.kept = s.trunk.kept ∧ t.trunk.cursor = s.trunk.cursor ∧ t.trunk.mode = s.trunk.mode ∧
    t.trunk.cause = s.trunk.cause ∧ t.trunk.commandStart = s.trunk.commandStart ∧ t.settings = s.settings ∧
    t.clock.value = s.clock.value ∧ t.clock.isSet = s.clock.isSet ∧ t.clock.rollover = s.clock.rollover ∧
    t.clock.nextAdvance = s.clock.nextAdvance ∧ t.register.pontoons = s.register.pontoons ∧
    t.register.arrivals = s.register.arrivals ∧ t.ledger = s.ledger ∧ t.link.filter = s.link.filter ∧
    t.power.feeders = s.power.feeders ∧ t.power.programs = s.power.programs ∧ t.fuel = s.fuel ∧
    t.access.gates = s.access.gates ∧ t.access.officeRelease = s.access.officeRelease ∧ t.access.log = s.access.log ∧
    t.access.nextPosition = s.access.nextPosition ∧ t.access.nextSequence = s.access.nextSequence ∧ t.lines = s.lines ∧
    t.room = s.room := by dsimp only; unfold departFrom; (try dsimp only); (repeat' split) <;> simp

@[simp] theorem moveTo_frame (y : StayId) (b : BerthId) (c : BerthId) (s : State) :
    let t := (moveTo y b c s)
    t.pending = s.pending ∧ t.part = s.part ∧ t.trunk.node = s.trunk.node ∧ t.trunk.owed = s.trunk.owed ∧
    t.trunk.kept = s.trunk.kept ∧ t.trunk.cursor = s.trunk.cursor ∧ t.trunk.mode = s.trunk.mode ∧
    t.trunk.cause = s.trunk.cause ∧ t.trunk.commandStart = s.trunk.commandStart ∧ t.settings = s.settings ∧
    t.clock.value = s.clock.value ∧ t.clock.isSet = s.clock.isSet ∧ t.clock.rollover = s.clock.rollover ∧
    t.clock.nextAdvance = s.clock.nextAdvance ∧ t.register.pontoons = s.register.pontoons ∧
    t.register.arrivals = s.register.arrivals ∧ t.ledger = s.ledger ∧ t.link.filter = s.link.filter ∧
    t.power.feeders = s.power.feeders ∧ t.power.programs = s.power.programs ∧ t.fuel = s.fuel ∧ t.access = s.access ∧
    t.lines = s.lines ∧ t.room = s.room := by dsimp only; unfold moveTo; (try dsimp only); (repeat' split) <;> simp

/-! ### Allocation -/

@[simp] theorem markDueQueued_frame (s : State) :
    let t := (markDueQueued s)
    t.pending = s.pending ∧ t.part = s.part ∧ t.trunk = s.trunk ∧ t.settings = s.settings ∧ t.clock = s.clock ∧
    t.register = s.register ∧ t.engine.queue = s.engine.queue ∧ t.engine.scan = s.engine.scan ∧
    t.engine.resubmit = s.engine.resubmit ∧ t.ledger = s.ledger ∧ t.link = s.link ∧ t.power = s.power ∧
    t.water = s.water ∧ t.fuel = s.fuel ∧ t.access = s.access ∧ t.lines = s.lines ∧ t.room = s.room := by
  dsimp only
  have h : ∀ (l : List StayId) (u : State), (forEach (fun y => setLeadMark y true) l u).engine.queue = u.engine.queue ∧
      (forEach (fun y => setLeadMark y true) l u).engine.scan = u.engine.scan ∧
      (forEach (fun y => setLeadMark y true) l u).engine.resubmit = u.engine.resubmit := fun l u =>
    ⟨forEach_keeps (f := fun y => setLeadMark y true) (·.engine.queue) (fun _ _ => rfl) l u,
     forEach_keeps (f := fun y => setLeadMark y true) (·.engine.scan) (fun _ _ => rfl) l u,
     forEach_keeps (f := fun y => setLeadMark y true) (·.engine.resubmit) (fun _ _ => rfl) l u⟩
  unfold markDueQueued; simp [h]

@[simp] theorem submitLead_frame (s : State) :
    let t := (submitLead s)
    t.pending = s.pending ∧ t.part = s.part ∧ t.trunk = s.trunk ∧ t.settings = s.settings ∧ t.clock = s.clock ∧
    t.register = s.register ∧ t.ledger = s.ledger ∧ t.link = s.link ∧ t.power = s.power ∧ t.water = s.water ∧
    t.fuel = s.fuel ∧ t.access = s.access ∧ t.lines = s.lines ∧ t.room = s.room := by dsimp only; unfold submitLead; (try dsimp only); (repeat' split) <;> simp

@[simp] theorem completeAttempt_frame (e : FitEntry) (x : Scan) (s : State) :
    let t := (completeAttempt e x s)
    t.pending = s.pending ∧ t.part = s.part ∧ t.trunk.node = s.trunk.node ∧ t.trunk.owed = s.trunk.owed ∧
    t.trunk.kept = s.trunk.kept ∧ t.trunk.cursor = s.trunk.cursor ∧ t.trunk.mode = s.trunk.mode ∧
    t.trunk.cause = s.trunk.cause ∧ t.trunk.commandStart = s.trunk.commandStart ∧ t.settings = s.settings ∧
    t.clock.value = s.clock.value ∧ t.clock.isSet = s.clock.isSet ∧ t.clock.rollover = s.clock.rollover ∧
    t.clock.nextAdvance = s.clock.nextAdvance ∧ t.register.pontoons = s.register.pontoons ∧ t.ledger = s.ledger ∧
    t.link = s.link ∧ t.power = s.power ∧ t.water = s.water ∧ t.fuel = s.fuel ∧ t.access = s.access ∧ t.lines = s.lines ∧
    t.room = s.room := by dsimp only; unfold completeAttempt; (try dsimp only); (repeat' split) <;> simp

/-! ### Accounts -/

@[simp] theorem passAt_frame (day : Int) (y : StayId) (s : State) :
    let t := (passAt day y s).2
    t.pending = s.pending ∧ t.part = s.part ∧ t.trunk.node = s.trunk.node ∧ t.trunk.owed = s.trunk.owed ∧
    t.trunk.kept = s.trunk.kept ∧ t.trunk.cursor = s.trunk.cursor ∧ t.trunk.mode = s.trunk.mode ∧
    t.trunk.cause = s.trunk.cause ∧ t.trunk.commandStart = s.trunk.commandStart ∧ t.settings = s.settings ∧
    t.clock = s.clock ∧ t.register.pontoons = s.register.pontoons ∧ t.register.berths = s.register.berths ∧
    t.register.arrivals = s.register.arrivals ∧ t.engine = s.engine ∧ t.ledger.holds = s.ledger.holds ∧
    t.ledger.tariff = s.ledger.tariff ∧ t.ledger.rolloverDay = s.ledger.rolloverDay ∧ t.ledger.pass = s.ledger.pass ∧
    t.link.filter = s.link.filter ∧ t.power.feeders = s.power.feeders ∧ t.power.programs = s.power.programs ∧
    t.fuel = s.fuel ∧ t.access = s.access ∧ t.lines = s.lines ∧ t.room = s.room := by dsimp only; unfold passAt; (try dsimp only); (repeat' split) <;> simp

/-! ### Outlets -/

@[simp] theorem applyOutletWrite_frame (o : OutletId) (w : OutletSettings) (s : State) :
    let t := (applyOutletWrite o w s)
    t.pending = s.pending ∧ t.part = s.part ∧ t.trunk = s.trunk ∧ t.settings = s.settings ∧ t.clock = s.clock ∧
    t.register = s.register ∧ t.engine = s.engine ∧ t.ledger = s.ledger ∧ t.link.branches = s.link.branches ∧
    t.link.filter = s.link.filter ∧ t.link.waterShown = s.link.waterShown ∧ t.power.feeders = s.power.feeders ∧
    t.power.starts = s.power.starts ∧ t.power.programs = s.power.programs ∧ t.water = s.water ∧ t.fuel = s.fuel ∧
    t.access = s.access ∧ t.lines = s.lines ∧ t.room = s.room := by dsimp only; unfold applyOutletWrite; (try dsimp only); (repeat' split) <;> simp

@[simp] theorem endStartWindow_frame (o : OutletId) (s0 : State) :
    let t := (endStartWindow o s0)
    t.pending = s0.pending ∧ t.part = s0.part ∧ t.trunk = s0.trunk ∧ t.settings = s0.settings ∧ t.clock = s0.clock ∧
    t.register = s0.register ∧ t.engine = s0.engine ∧ t.ledger = s0.ledger ∧ t.link.filter = s0.link.filter ∧
    t.link.waterShown = s0.link.waterShown ∧ t.power.feeders = s0.power.feeders ∧ t.power.programs = s0.power.programs ∧
    t.water = s0.water ∧ t.fuel = s0.fuel ∧ t.access = s0.access ∧ t.lines = s0.lines ∧ t.room = s0.room := by dsimp only; unfold endStartWindow; (try dsimp only); (repeat' split) <;> simp

@[simp] theorem replug_frame (o : OutletId) (s : State) :
    let t := (replug o s)
    t.pending = s.pending ∧ t.part = s.part ∧ t.trunk = s.trunk ∧ t.settings = s.settings ∧ t.clock = s.clock ∧
    t.register = s.register ∧ t.engine = s.engine ∧ t.ledger = s.ledger ∧ t.link.filter = s.link.filter ∧
    t.link.waterShown = s.link.waterShown ∧ t.power.feeders = s.power.feeders ∧ t.power.programs = s.power.programs ∧
    t.water = s.water ∧ t.fuel = s.fuel ∧ t.access = s.access ∧ t.lines = s.lines ∧ t.room = s.room := by dsimp only; unfold replug; (try dsimp only); (repeat' split) <;> simp

@[simp] theorem unlockVacant_frame (o : OutletId) (s : State) :
    let t := (unlockVacant o s)
    t.pending = s.pending ∧ t.part = s.part ∧ t.trunk = s.trunk ∧ t.settings = s.settings ∧ t.clock = s.clock ∧
    t.register = s.register ∧ t.engine = s.engine ∧ t.ledger = s.ledger ∧ t.link.filter = s.link.filter ∧
    t.link.waterShown = s.link.waterShown ∧ t.power.feeders = s.power.feeders ∧ t.power.programs = s.power.programs ∧
    t.water = s.water ∧ t.fuel = s.fuel ∧ t.access = s.access ∧ t.lines = s.lines ∧ t.room = s.room := by dsimp only; unfold unlockVacant; (try dsimp only); (repeat' split) <;> simp

@[simp] theorem lockAnOutlet_frame (o : OutletId) (s : State) :
    let t := (lockAnOutlet o s)
    t.pending = s.pending ∧ t.part = s.part ∧ t.trunk = s.trunk ∧ t.settings = s.settings ∧ t.clock = s.clock ∧
    t.register = s.register ∧ t.engine = s.engine ∧ t.ledger = s.ledger ∧ t.link.filter = s.link.filter ∧
    t.link.waterShown = s.link.waterShown ∧ t.power.feeders = s.power.feeders ∧ t.power.programs = s.power.programs ∧
    t.water = s.water ∧ t.fuel = s.fuel ∧ t.access = s.access ∧ t.lines = s.lines ∧ t.room = s.room := by dsimp only; unfold lockAnOutlet; (try dsimp only); (repeat' split) <;> simp

/-! ### Taps -/

@[simp] theorem applyTapWrite_frame (t : TapId) (w : TapSettings) (s : State) :
    let t' := (applyTapWrite t w s)
    t'.pending = s.pending ∧ t'.part = s.part ∧ t'.trunk = s.trunk ∧ t'.settings = s.settings ∧ t'.clock = s.clock ∧
    t'.register = s.register ∧ t'.engine = s.engine ∧ t'.ledger = s.ledger ∧ t'.link = s.link ∧ t'.power = s.power ∧
    t'.fuel = s.fuel ∧ t'.access = s.access ∧ t'.lines = s.lines ∧ t'.room = s.room := by dsimp only; unfold applyTapWrite; (try dsimp only); (repeat' split) <;> simp

/-! ### Fuel -/

@[simp] theorem refreshSettle_frame (d : DispenserId) (s : State) :
    let t := (refreshSettle d s)
    t.pending = s.pending ∧ t.part = s.part ∧ t.trunk = s.trunk ∧ t.settings = s.settings ∧ t.clock = s.clock ∧
    t.register = s.register ∧ t.engine = s.engine ∧ t.ledger = s.ledger ∧ t.link = s.link ∧ t.power = s.power ∧
    t.water = s.water ∧ t.fuel.tanks = s.fuel.tanks ∧ t.fuel.journal = s.fuel.journal ∧
    t.fuel.nextSale = s.fuel.nextSale ∧ t.access = s.access ∧ t.lines = s.lines ∧ t.room = s.room := by dsimp only; unfold refreshSettle; (try dsimp only); (repeat' split) <;> simp

@[simp] theorem showDispenser_frame (d : DispenserId) (s : State) :
    let t := (showDispenser d s)
    t.pending = s.pending ∧ t.part = s.part ∧ t.trunk = s.trunk ∧ t.settings = s.settings ∧ t.clock = s.clock ∧
    t.register = s.register ∧ t.engine = s.engine ∧ t.ledger = s.ledger ∧ t.link.branches = s.link.branches ∧
    t.link.filter = s.link.filter ∧ t.link.waterShown = s.link.waterShown ∧ t.power = s.power ∧ t.water = s.water ∧
    t.fuel = s.fuel ∧ t.access = s.access ∧ t.lines = s.lines ∧ t.room = s.room := by dsimp only; unfold showDispenser; (try dsimp only); (repeat' split) <;> simp

@[simp] theorem putDispenser_frame (d : DispenserId) (x : Dispenser) (s : State) :
    let t := (putDispenser d x s)
    t.pending = s.pending ∧ t.part = s.part ∧ t.trunk = s.trunk ∧ t.settings = s.settings ∧ t.clock = s.clock ∧
    t.register = s.register ∧ t.engine = s.engine ∧ t.ledger = s.ledger ∧ t.link.filter = s.link.filter ∧
    t.link.waterShown = s.link.waterShown ∧ t.power = s.power ∧ t.water = s.water ∧ t.fuel.tanks = s.fuel.tanks ∧
    t.fuel.journal = s.fuel.journal ∧ t.fuel.nextSale = s.fuel.nextSale ∧ t.access = s.access ∧ t.lines = s.lines ∧
    t.room = s.room := by dsimp only; unfold putDispenser; (try dsimp only); (repeat' split) <;> simp

@[simp] theorem fuelStationChanged_frame (st : StationId) (s : State) :
    let t := (fuelStationChanged st s)
    t.pending = s.pending ∧ t.part = s.part ∧ t.trunk = s.trunk ∧ t.settings = s.settings ∧ t.clock = s.clock ∧
    t.register = s.register ∧ t.engine = s.engine ∧ t.ledger = s.ledger ∧ t.link = s.link ∧ t.power = s.power ∧
    t.water = s.water ∧ t.fuel.tanks = s.fuel.tanks ∧ t.fuel.journal = s.fuel.journal ∧
    t.fuel.nextSale = s.fuel.nextSale ∧ t.access = s.access ∧ t.lines = s.lines ∧ t.room = s.room := by dsimp only; unfold fuelStationChanged; (try dsimp only); (repeat' split) <;> simp

@[simp] theorem applyDispenserWrite_frame (d : DispenserId) (v : DispenserSettings) (s : State) :
    let t := (applyDispenserWrite d v s)
    t.pending = s.pending ∧ t.part = s.part ∧ t.trunk = s.trunk ∧ t.settings = s.settings ∧ t.clock = s.clock ∧
    t.register = s.register ∧ t.engine = s.engine ∧ t.ledger = s.ledger ∧ t.link.filter = s.link.filter ∧
    t.link.waterShown = s.link.waterShown ∧ t.power = s.power ∧ t.water = s.water ∧ t.fuel.tanks = s.fuel.tanks ∧
    t.fuel.journal = s.fuel.journal ∧ t.fuel.nextSale = s.fuel.nextSale ∧ t.access = s.access ∧ t.lines = s.lines ∧
    t.room = s.room := by dsimp only; unfold applyDispenserWrite; (try dsimp only); (repeat' split) <;> simp

@[simp] theorem authoriseSale_frame (d : DispenserId) (a : AccountId) (credential : Option (CredentialSlot × CardNumber)) (staff : Bool) (g : PresetGiven) (s : State) :
    let t := (authoriseSale d a credential staff g s)
    t.pending = s.pending ∧ t.part = s.part ∧ t.trunk.node = s.trunk.node ∧ t.trunk.owed = s.trunk.owed ∧
    t.trunk.kept = s.trunk.kept ∧ t.trunk.cursor = s.trunk.cursor ∧ t.trunk.mode = s.trunk.mode ∧
    t.trunk.cause = s.trunk.cause ∧ t.trunk.commandStart = s.trunk.commandStart ∧ t.settings = s.settings ∧
    t.clock = s.clock ∧ t.register = s.register ∧ t.engine = s.engine ∧ t.ledger.tariff = s.ledger.tariff ∧
    t.ledger.rolloverDay = s.ledger.rolloverDay ∧ t.ledger.pass = s.ledger.pass ∧ t.link.filter = s.link.filter ∧
    t.power.feeders = s.power.feeders ∧ t.power.programs = s.power.programs ∧ t.fuel.tanks = s.fuel.tanks ∧
    t.fuel.journal = s.fuel.journal ∧ t.fuel.nextSale = s.fuel.nextSale ∧ t.access = s.access ∧ t.lines = s.lines ∧
    t.room = s.room := by dsimp only; unfold authoriseSale; (try dsimp only); (repeat' split) <;> simp

@[simp] theorem refuseCard_frame (d : DispenserId) (r : Reason) (n : CardNumber) (s : State) :
    let t := (refuseCard d r n s)
    t.pending = s.pending ∧ t.part = s.part ∧ t.trunk.node = s.trunk.node ∧ t.trunk.owed = s.trunk.owed ∧
    t.trunk.kept = s.trunk.kept ∧ t.trunk.cursor = s.trunk.cursor ∧ t.trunk.mode = s.trunk.mode ∧
    t.trunk.cause = s.trunk.cause ∧ t.trunk.commandStart = s.trunk.commandStart ∧ t.settings = s.settings ∧
    t.clock = s.clock ∧ t.register = s.register ∧ t.engine = s.engine ∧ t.ledger = s.ledger ∧ t.link = s.link ∧
    t.power = s.power ∧ t.water = s.water ∧ t.fuel = s.fuel ∧ t.access = s.access ∧ t.lines = s.lines ∧ t.room = s.room := by dsimp only; unfold refuseCard; (try dsimp only); (repeat' split) <;> simp

@[simp] theorem takeKnownCard_frame (d : DispenserId) (i : CredentialSlot) (c : Credential) (s : State) :
    let t := (takeKnownCard d i c s)
    t.pending = s.pending ∧ t.part = s.part ∧ t.trunk.node = s.trunk.node ∧ t.trunk.owed = s.trunk.owed ∧
    t.trunk.kept = s.trunk.kept ∧ t.trunk.cursor = s.trunk.cursor ∧ t.trunk.mode = s.trunk.mode ∧
    t.trunk.cause = s.trunk.cause ∧ t.trunk.commandStart = s.trunk.commandStart ∧ t.settings = s.settings ∧
    t.clock = s.clock ∧ t.register = s.register ∧ t.engine = s.engine ∧ t.ledger.tariff = s.ledger.tariff ∧
    t.ledger.rolloverDay = s.ledger.rolloverDay ∧ t.ledger.pass = s.ledger.pass ∧ t.link.filter = s.link.filter ∧
    t.power.feeders = s.power.feeders ∧ t.power.programs = s.power.programs ∧ t.fuel.tanks = s.fuel.tanks ∧
    t.fuel.journal = s.fuel.journal ∧ t.fuel.nextSale = s.fuel.nextSale ∧ t.access = s.access ∧ t.lines = s.lines ∧
    t.room = s.room := by dsimp only; unfold takeKnownCard; (try dsimp only); (repeat' split) <;> simp

@[simp] theorem takeFuelCard_frame (d : DispenserId) (n : CardNumber) (s : State) :
    let t := (takeFuelCard d n s)
    t.pending = s.pending ∧ t.part = s.part ∧ t.trunk.node = s.trunk.node ∧ t.trunk.owed = s.trunk.owed ∧
    t.trunk.kept = s.trunk.kept ∧ t.trunk.cursor = s.trunk.cursor ∧ t.trunk.mode = s.trunk.mode ∧
    t.trunk.cause = s.trunk.cause ∧ t.trunk.commandStart = s.trunk.commandStart ∧ t.settings = s.settings ∧
    t.clock.value = s.clock.value ∧ t.clock.isSet = s.clock.isSet ∧ t.clock.rollover = s.clock.rollover ∧
    t.clock.nextAdvance = s.clock.nextAdvance ∧ t.register = s.register ∧ t.engine = s.engine ∧
    t.ledger.tariff = s.ledger.tariff ∧ t.ledger.rolloverDay = s.ledger.rolloverDay ∧ t.ledger.pass = s.ledger.pass ∧
    t.link.filter = s.link.filter ∧ t.power.feeders = s.power.feeders ∧ t.power.programs = s.power.programs ∧
    t.fuel.tanks = s.fuel.tanks ∧ t.fuel.journal = s.fuel.journal ∧ t.fuel.nextSale = s.fuel.nextSale ∧
    t.access = s.access ∧ t.lines = s.lines ∧ t.room = s.room := by dsimp only; unfold takeFuelCard; (try dsimp only); (repeat' split) <;> simp

@[simp] theorem abandonSale_frame (d : DispenserId) (st : DispenserState) (s : State) :
    let t := (abandonSale d st s)
    t.pending = s.pending ∧ t.part = s.part ∧ t.trunk.node = s.trunk.node ∧ t.trunk.owed = s.trunk.owed ∧
    t.trunk.kept = s.trunk.kept ∧ t.trunk.cursor = s.trunk.cursor ∧ t.trunk.mode = s.trunk.mode ∧
    t.trunk.cause = s.trunk.cause ∧ t.trunk.commandStart = s.trunk.commandStart ∧ t.settings = s.settings ∧
    t.clock = s.clock ∧ t.register = s.register ∧ t.engine = s.engine ∧ t.ledger.tariff = s.ledger.tariff ∧
    t.ledger.rolloverDay = s.ledger.rolloverDay ∧ t.ledger.pass = s.ledger.pass ∧ t.link.filter = s.link.filter ∧
    t.power.feeders = s.power.feeders ∧ t.power.programs = s.power.programs ∧ t.fuel.tanks = s.fuel.tanks ∧
    t.fuel.journal = s.fuel.journal ∧ t.fuel.nextSale = s.fuel.nextSale ∧ t.access = s.access ∧ t.lines = s.lines ∧
    t.room = s.room := by dsimp only; unfold abandonSale; (try dsimp only); (repeat' split) <;> simp

@[simp] theorem nozzleTimeoutAt_frame (d : DispenserId) (s : State) :
    let t := (nozzleTimeoutAt d s)
    t.pending = s.pending ∧ t.part = s.part ∧ t.trunk.node = s.trunk.node ∧ t.trunk.owed = s.trunk.owed ∧
    t.trunk.kept = s.trunk.kept ∧ t.trunk.cursor = s.trunk.cursor ∧ t.trunk.mode = s.trunk.mode ∧
    t.trunk.cause = s.trunk.cause ∧ t.trunk.commandStart = s.trunk.commandStart ∧ t.settings = s.settings ∧
    t.clock = s.clock ∧ t.register = s.register ∧ t.engine = s.engine ∧ t.ledger.tariff = s.ledger.tariff ∧
    t.ledger.rolloverDay = s.ledger.rolloverDay ∧ t.ledger.pass = s.ledger.pass ∧ t.link.filter = s.link.filter ∧
    t.power.feeders = s.power.feeders ∧ t.power.programs = s.power.programs ∧ t.fuel.tanks = s.fuel.tanks ∧
    t.fuel.journal = s.fuel.journal ∧ t.fuel.nextSale = s.fuel.nextSale ∧ t.access = s.access ∧ t.lines = s.lines ∧
    t.room = s.room := by dsimp only; unfold nozzleTimeoutAt; (try dsimp only); (repeat' split) <;> simp

@[simp] theorem appendSale_frame (r : SaleRecord) (s : State) :
    let t := (appendSale r s)
    t.pending = s.pending ∧ t.part = s.part ∧ t.trunk = s.trunk ∧ t.settings = s.settings ∧ t.clock = s.clock ∧
    t.register = s.register ∧ t.engine = s.engine ∧ t.ledger = s.ledger ∧ t.link = s.link ∧ t.power = s.power ∧
    t.water = s.water ∧ t.fuel.tanks = s.fuel.tanks ∧ t.fuel.dispensers = s.fuel.dispensers ∧ t.access = s.access ∧
    t.lines = s.lines ∧ t.room = s.room := by dsimp only; unfold appendSale; (repeat' split) <;> simp [State.room, State.stamp, State.now, State.arrivals, State.stay, State.berth, State.pontoon, State.account, State.holdSlot, State.branch, State.station, State.outlet, State.feeder, State.start, State.tap, State.tank, State.dispenser, State.gate, State.credential, State.signal]

@[simp] theorem settleMoney_frame (d : DispenserId) (y : Sale) (charged : Nat) (s : State) :
    let t := (settleMoney d y charged s).2
    t.pending = s.pending ∧ t.part = s.part ∧ t.trunk.node = s.trunk.node ∧ t.trunk.owed = s.trunk.owed ∧
    t.trunk.kept = s.trunk.kept ∧ t.trunk.cursor = s.trunk.cursor ∧ t.trunk.mode = s.trunk.mode ∧
    t.trunk.cause = s.trunk.cause ∧ t.trunk.commandStart = s.trunk.commandStart ∧ t.settings = s.settings ∧
    t.clock = s.clock ∧ t.register = s.register ∧ t.engine = s.engine ∧ t.ledger.tariff = s.ledger.tariff ∧
    t.ledger.rolloverDay = s.ledger.rolloverDay ∧ t.ledger.pass = s.ledger.pass ∧ t.link.filter = s.link.filter ∧
    t.power.feeders = s.power.feeders ∧ t.power.programs = s.power.programs ∧ t.fuel = s.fuel ∧ t.access = s.access ∧
    t.lines = s.lines ∧ t.room = s.room := by dsimp only; unfold settleMoney; (try dsimp only); (repeat' split) <;> simp

@[simp] theorem settleSale_frame (d : DispenserId) (volume : Nat) (estimated : Bool) (s : State) :
    let t := (settleSale d volume estimated s)
    t.pending = s.pending ∧ t.part = s.part ∧ t.trunk.node = s.trunk.node ∧ t.trunk.owed = s.trunk.owed ∧
    t.trunk.kept = s.trunk.kept ∧ t.trunk.cursor = s.trunk.cursor ∧ t.trunk.mode = s.trunk.mode ∧
    t.trunk.cause = s.trunk.cause ∧ t.trunk.commandStart = s.trunk.commandStart ∧ t.settings = s.settings ∧
    t.clock = s.clock ∧ t.register = s.register ∧ t.engine = s.engine ∧ t.ledger.tariff = s.ledger.tariff ∧
    t.ledger.rolloverDay = s.ledger.rolloverDay ∧ t.ledger.pass = s.ledger.pass ∧ t.link.filter = s.link.filter ∧
    t.power.feeders = s.power.feeders ∧ t.power.programs = s.power.programs ∧ t.access = s.access ∧ t.lines = s.lines ∧
    t.room = s.room := by dsimp only; unfold settleSale; (try dsimp only); (repeat' split) <;> simp

@[simp] theorem watchStep_frame (d : DispenserId) (final : Bool) (delivered : Nat) (s : State) :
    let t := (watchStep d final delivered s)
    t.pending = s.pending ∧ t.part = s.part ∧ t.trunk.node = s.trunk.node ∧ t.trunk.owed = s.trunk.owed ∧
    t.trunk.kept = s.trunk.kept ∧ t.trunk.cursor = s.trunk.cursor ∧ t.trunk.mode = s.trunk.mode ∧
    t.trunk.cause = s.trunk.cause ∧ t.trunk.commandStart = s.trunk.commandStart ∧ t.settings = s.settings ∧
    t.clock = s.clock ∧ t.register = s.register ∧ t.engine = s.engine ∧ t.ledger = s.ledger ∧ t.link = s.link ∧
    t.power = s.power ∧ t.water = s.water ∧ t.fuel.journal = s.fuel.journal ∧ t.fuel.nextSale = s.fuel.nextSale ∧
    t.access = s.access ∧ t.lines = s.lines ∧ t.room = s.room := by dsimp only; unfold watchStep; (try dsimp only); (repeat' split) <;> simp

@[simp] theorem authorisedStep_frame (d : DispenserId) (delivered : Nat) (s : State) :
    let t := (authorisedStep d delivered s)
    t.pending = s.pending ∧ t.part = s.part ∧ t.trunk = s.trunk ∧ t.settings = s.settings ∧ t.clock = s.clock ∧
    t.register = s.register ∧ t.engine = s.engine ∧ t.ledger = s.ledger ∧ t.link.filter = s.link.filter ∧
    t.link.waterShown = s.link.waterShown ∧ t.power = s.power ∧ t.water = s.water ∧ t.fuel.tanks = s.fuel.tanks ∧
    t.fuel.journal = s.fuel.journal ∧ t.fuel.nextSale = s.fuel.nextSale ∧ t.access = s.access ∧ t.lines = s.lines ∧
    t.room = s.room := by dsimp only; unfold authorisedStep; (try dsimp only); (repeat' split) <;> simp

@[simp] theorem volumeStep_frame (d : DispenserId) (delivered : Nat) (s : State) :
    let t := (volumeStep d delivered s)
    t.pending = s.pending ∧ t.part = s.part ∧ t.trunk.node = s.trunk.node ∧ t.trunk.owed = s.trunk.owed ∧
    t.trunk.kept = s.trunk.kept ∧ t.trunk.cursor = s.trunk.cursor ∧ t.trunk.mode = s.trunk.mode ∧
    t.trunk.cause = s.trunk.cause ∧ t.trunk.commandStart = s.trunk.commandStart ∧ t.settings = s.settings ∧
    t.clock = s.clock ∧ t.register = s.register ∧ t.engine = s.engine ∧ t.ledger = s.ledger ∧
    t.link.filter = s.link.filter ∧ t.link.waterShown = s.link.waterShown ∧ t.power = s.power ∧ t.water = s.water ∧
    t.fuel.tanks = s.fuel.tanks ∧ t.fuel.journal = s.fuel.journal ∧ t.fuel.nextSale = s.fuel.nextSale ∧
    t.access = s.access ∧ t.lines = s.lines ∧ t.room = s.room := by dsimp only; unfold volumeStep; (try dsimp only); (repeat' split) <;> simp

@[simp] theorem hangStep_frame (d : DispenserId) (lifted : Bool) (s : State) :
    let t := (hangStep d lifted s)
    t.pending = s.pending ∧ t.part = s.part ∧ t.trunk = s.trunk ∧ t.settings = s.settings ∧ t.clock = s.clock ∧
    t.register = s.register ∧ t.engine = s.engine ∧ t.ledger = s.ledger ∧ t.link.filter = s.link.filter ∧
    t.link.waterShown = s.link.waterShown ∧ t.power = s.power ∧ t.water = s.water ∧ t.fuel.tanks = s.fuel.tanks ∧
    t.fuel.journal = s.fuel.journal ∧ t.fuel.nextSale = s.fuel.nextSale ∧ t.access = s.access ∧ t.lines = s.lines ∧
    t.room = s.room := by dsimp only; unfold hangStep; (try dsimp only); (repeat' split) <;> simp

@[simp] theorem finalStep_frame (d : DispenserId) (settling : Bool) (final : Bool) (delivered : Nat) (s : State) :
    let t := (finalStep d settling final delivered s)
    t.pending = s.pending ∧ t.part = s.part ∧ t.trunk.node = s.trunk.node ∧ t.trunk.owed = s.trunk.owed ∧
    t.trunk.kept = s.trunk.kept ∧ t.trunk.cursor = s.trunk.cursor ∧ t.trunk.mode = s.trunk.mode ∧
    t.trunk.cause = s.trunk.cause ∧ t.trunk.commandStart = s.trunk.commandStart ∧ t.settings = s.settings ∧
    t.clock = s.clock ∧ t.register = s.register ∧ t.engine = s.engine ∧ t.ledger.tariff = s.ledger.tariff ∧
    t.ledger.rolloverDay = s.ledger.rolloverDay ∧ t.ledger.pass = s.ledger.pass ∧ t.link.filter = s.link.filter ∧
    t.power.feeders = s.power.feeders ∧ t.power.programs = s.power.programs ∧ t.access = s.access ∧ t.lines = s.lines ∧
    t.room = s.room := by dsimp only; unfold finalStep; (try dsimp only); (repeat' split) <;> simp

@[simp] theorem takeDispenserReport_frame (d : DispenserId) (lifted : Bool) (final : Bool) (delivered : Nat) (card : Option CardNumber) (s : State) :
    let t := (takeDispenserReport d lifted final delivered card s)
    t.pending = s.pending ∧ t.part = s.part ∧ t.trunk.node = s.trunk.node ∧ t.trunk.owed = s.trunk.owed ∧
    t.trunk.kept = s.trunk.kept ∧ t.trunk.cursor = s.trunk.cursor ∧ t.trunk.mode = s.trunk.mode ∧
    t.trunk.cause = s.trunk.cause ∧ t.trunk.commandStart = s.trunk.commandStart ∧ t.settings = s.settings ∧
    t.clock.value = s.clock.value ∧ t.clock.isSet = s.clock.isSet ∧ t.clock.rollover = s.clock.rollover ∧
    t.clock.nextAdvance = s.clock.nextAdvance ∧ t.register = s.register ∧ t.engine = s.engine ∧
    t.ledger.tariff = s.ledger.tariff ∧ t.ledger.rolloverDay = s.ledger.rolloverDay ∧ t.ledger.pass = s.ledger.pass ∧
    t.link.filter = s.link.filter ∧ t.power.feeders = s.power.feeders ∧ t.power.programs = s.power.programs ∧
    t.access = s.access ∧ t.lines = s.lines ∧ t.room = s.room := by dsimp only; unfold takeDispenserReport; (try dsimp only); (repeat' split) <;> simp

@[simp] theorem stopDispenser_frame (d : DispenserId) (s : State) :
    let t := (stopDispenser d s)
    t.pending = s.pending ∧ t.part = s.part ∧ t.trunk.node = s.trunk.node ∧ t.trunk.owed = s.trunk.owed ∧
    t.trunk.kept = s.trunk.kept ∧ t.trunk.cursor = s.trunk.cursor ∧ t.trunk.mode = s.trunk.mode ∧
    t.trunk.cause = s.trunk.cause ∧ t.trunk.commandStart = s.trunk.commandStart ∧ t.settings = s.settings ∧
    t.clock = s.clock ∧ t.register = s.register ∧ t.engine = s.engine ∧ t.ledger.tariff = s.ledger.tariff ∧
    t.ledger.rolloverDay = s.ledger.rolloverDay ∧ t.ledger.pass = s.ledger.pass ∧ t.link.filter = s.link.filter ∧
    t.power.feeders = s.power.feeders ∧ t.power.programs = s.power.programs ∧ t.fuel.tanks = s.fuel.tanks ∧
    t.fuel.journal = s.fuel.journal ∧ t.fuel.nextSale = s.fuel.nextSale ∧ t.access = s.access ∧ t.lines = s.lines ∧
    t.room = s.room := by dsimp only; unfold stopDispenser; (try dsimp only); (repeat' split) <;> simp

@[simp] theorem resumeDispenser_frame (d : DispenserId) (s : State) :
    let t := (resumeDispenser d s)
    t.pending = s.pending ∧ t.part = s.part ∧ t.trunk = s.trunk ∧ t.settings = s.settings ∧ t.clock = s.clock ∧
    t.register = s.register ∧ t.engine = s.engine ∧ t.ledger = s.ledger ∧ t.link.filter = s.link.filter ∧
    t.link.waterShown = s.link.waterShown ∧ t.power = s.power ∧ t.water = s.water ∧ t.fuel.tanks = s.fuel.tanks ∧
    t.fuel.journal = s.fuel.journal ∧ t.fuel.nextSale = s.fuel.nextSale ∧ t.access = s.access ∧ t.lines = s.lines ∧
    t.room = s.room := by dsimp only; unfold resumeDispenser; (try dsimp only); (repeat' split) <;> simp

@[simp] theorem takeEstop_frame (l : TakenLevel) (s : State) :
    let t := (takeEstop l s)
    t.pending = s.pending ∧ t.part = s.part ∧ t.trunk = s.trunk ∧ t.settings = s.settings ∧ t.clock = s.clock ∧
    t.register = s.register ∧ t.engine = s.engine ∧ t.ledger = s.ledger ∧ t.link = s.link ∧ t.power = s.power ∧
    t.water = s.water ∧ t.fuel = s.fuel ∧ t.access = s.access ∧ t.lines.signals = s.lines.signals ∧
    t.lines.fire = s.lines.fire ∧ t.room = s.room := by dsimp only; unfold takeEstop; (repeat' split) <;> simp [State.room, State.stamp, State.now, State.arrivals, State.stay, State.berth, State.pontoon, State.account, State.holdSlot, State.branch, State.station, State.outlet, State.feeder, State.start, State.tap, State.tank, State.dispenser, State.gate, State.credential, State.signal]

/-! ### Gates -/

@[simp] theorem putGate_frame (g : PontoonId) (x : Gate) (s : State) :
    let t := (putGate g x s)
    t.pending = s.pending ∧ t.part = s.part ∧ t.trunk = s.trunk ∧ t.settings = s.settings ∧ t.clock = s.clock ∧
    t.register = s.register ∧ t.engine = s.engine ∧ t.ledger = s.ledger ∧ t.link.filter = s.link.filter ∧
    t.link.waterShown = s.link.waterShown ∧ t.power = s.power ∧ t.water = s.water ∧ t.fuel = s.fuel ∧
    t.access.credentials = s.access.credentials ∧ t.access.officeRelease = s.access.officeRelease ∧
    t.access.log = s.access.log ∧ t.access.nextPosition = s.access.nextPosition ∧
    t.access.nextSequence = s.access.nextSequence ∧ t.lines = s.lines ∧ t.room = s.room := by dsimp only; unfold putGate; (try dsimp only); (repeat' split) <;> simp

@[simp] theorem writeLog_frame (g : PontoonId) (number : Option CardNumber) (dir : Direction) (result : PassageResult) (s : State) :
    let t := (writeLog g number dir result s)
    t.pending = s.pending ∧ t.part = s.part ∧ t.trunk = s.trunk ∧ t.settings = s.settings ∧ t.clock = s.clock ∧
    t.register = s.register ∧ t.engine = s.engine ∧ t.ledger = s.ledger ∧ t.link = s.link ∧ t.power = s.power ∧
    t.water = s.water ∧ t.fuel = s.fuel ∧ t.access.credentials = s.access.credentials ∧ t.access.gates = s.access.gates ∧
    t.access.officeRelease = s.access.officeRelease ∧ t.lines = s.lines ∧ t.room = s.room := by dsimp only; unfold writeLog; (repeat' split) <;> simp [State.room, State.stamp, State.now, State.arrivals, State.stay, State.berth, State.pontoon, State.account, State.holdSlot, State.branch, State.station, State.outlet, State.feeder, State.start, State.tap, State.tank, State.dispenser, State.gate, State.credential, State.signal]

@[simp] theorem voidPassage_frame (g : PontoonId) (x : Passage) (s : State) :
    let t := (voidPassage g x s)
    t.pending = s.pending ∧ t.part = s.part ∧ t.trunk = s.trunk ∧ t.settings = s.settings ∧ t.clock = s.clock ∧
    t.register = s.register ∧ t.engine = s.engine ∧ t.ledger = s.ledger ∧ t.link = s.link ∧ t.power = s.power ∧
    t.water = s.water ∧ t.fuel = s.fuel ∧ t.access.credentials = s.access.credentials ∧ t.access.gates = s.access.gates ∧
    t.access.officeRelease = s.access.officeRelease ∧ t.lines = s.lines ∧ t.room = s.room := by dsimp only; unfold voidPassage; (try dsimp only); (repeat' split) <;> simp

@[simp] theorem voidPassages_frame (g : PontoonId) (s : State) :
    let t := (voidPassages g s)
    t.pending = s.pending ∧ t.part = s.part ∧ t.trunk = s.trunk ∧ t.settings = s.settings ∧ t.clock = s.clock ∧
    t.register = s.register ∧ t.engine = s.engine ∧ t.ledger = s.ledger ∧ t.link = s.link ∧ t.power = s.power ∧
    t.water = s.water ∧ t.fuel = s.fuel ∧ t.access.credentials = s.access.credentials ∧ t.access.gates = s.access.gates ∧
    t.access.officeRelease = s.access.officeRelease ∧ t.lines = s.lines ∧ t.room = s.room := by dsimp only; unfold voidPassages; (try dsimp only); (repeat' split) <;> simp

@[simp] theorem applyGateWrite_frame (g : PontoonId) (v : GateSettings) (s : State) :
    let t := (applyGateWrite g v s)
    t.pending = s.pending ∧ t.part = s.part ∧ t.trunk = s.trunk ∧ t.settings = s.settings ∧ t.clock = s.clock ∧
    t.register = s.register ∧ t.engine = s.engine ∧ t.ledger = s.ledger ∧ t.link.filter = s.link.filter ∧
    t.link.waterShown = s.link.waterShown ∧ t.power = s.power ∧ t.water = s.water ∧ t.fuel = s.fuel ∧
    t.access.credentials = s.access.credentials ∧ t.access.officeRelease = s.access.officeRelease ∧
    t.access.log = s.access.log ∧ t.access.nextPosition = s.access.nextPosition ∧
    t.access.nextSequence = s.access.nextSequence ∧ t.lines = s.lines ∧ t.room = s.room := by dsimp only; unfold applyGateWrite; (try dsimp only); (repeat' split) <;> simp

@[simp] theorem countIn_frame (p : PontoonId) (s : State) :
    let t := (countIn p s)
    t.pending = s.pending ∧ t.part = s.part ∧ t.trunk = s.trunk ∧ t.settings = s.settings ∧ t.clock = s.clock ∧
    t.register = s.register ∧ t.engine = s.engine ∧ t.ledger = s.ledger ∧ t.link = s.link ∧ t.power = s.power ∧
    t.water = s.water ∧ t.fuel = s.fuel ∧ t.access.credentials = s.access.credentials ∧
    t.access.officeRelease = s.access.officeRelease ∧ t.access.log = s.access.log ∧
    t.access.nextPosition = s.access.nextPosition ∧ t.access.nextSequence = s.access.nextSequence ∧ t.lines = s.lines ∧
    t.room = s.room := by dsimp only; unfold countIn; (try dsimp only); (repeat' split) <;> simp

@[simp] theorem countOut_frame (p : PontoonId) (s : State) :
    let t := (countOut p s)
    t.pending = s.pending ∧ t.part = s.part ∧ t.trunk = s.trunk ∧ t.settings = s.settings ∧ t.clock = s.clock ∧
    t.register = s.register ∧ t.engine = s.engine ∧ t.ledger = s.ledger ∧ t.link = s.link ∧ t.power = s.power ∧
    t.water = s.water ∧ t.fuel = s.fuel ∧ t.access.credentials = s.access.credentials ∧
    t.access.officeRelease = s.access.officeRelease ∧ t.access.log = s.access.log ∧
    t.access.nextPosition = s.access.nextPosition ∧ t.access.nextSequence = s.access.nextSequence ∧ t.lines = s.lines ∧
    t.room = s.room := by dsimp only; unfold countOut; (try dsimp only); (repeat' split) <;> simp

@[simp] theorem setZone_frame (i : CredentialSlot) (c : Credential) (z : Option PontoonId) (s : State) :
    let t := (setZone i c z s)
    t.pending = s.pending ∧ t.part = s.part ∧ t.trunk = s.trunk ∧ t.settings = s.settings ∧ t.clock = s.clock ∧
    t.register = s.register ∧ t.engine = s.engine ∧ t.ledger = s.ledger ∧ t.link = s.link ∧ t.power = s.power ∧
    t.water = s.water ∧ t.fuel = s.fuel ∧ t.access.gates = s.access.gates ∧
    t.access.officeRelease = s.access.officeRelease ∧ t.access.log = s.access.log ∧
    t.access.nextPosition = s.access.nextPosition ∧ t.access.nextSequence = s.access.nextSequence ∧ t.lines = s.lines ∧
    t.room = s.room := by dsimp only; unfold setZone; (try dsimp only); (repeat' split) <;> simp

@[simp] theorem completeIn_frame (g : PontoonId) (x : Passage) (s : State) :
    let t := (completeIn g x s)
    t.pending = s.pending ∧ t.part = s.part ∧ t.trunk.node = s.trunk.node ∧ t.trunk.owed = s.trunk.owed ∧
    t.trunk.kept = s.trunk.kept ∧ t.trunk.cursor = s.trunk.cursor ∧ t.trunk.mode = s.trunk.mode ∧
    t.trunk.cause = s.trunk.cause ∧ t.trunk.commandStart = s.trunk.commandStart ∧ t.settings = s.settings ∧
    t.clock = s.clock ∧ t.register = s.register ∧ t.engine = s.engine ∧ t.ledger = s.ledger ∧ t.link = s.link ∧
    t.power = s.power ∧ t.water = s.water ∧ t.fuel = s.fuel ∧ t.access.officeRelease = s.access.officeRelease ∧
    t.access.log = s.access.log ∧ t.access.nextPosition = s.access.nextPosition ∧
    t.access.nextSequence = s.access.nextSequence ∧ t.lines = s.lines ∧ t.room = s.room := by dsimp only; unfold completeIn; (try dsimp only); (repeat' split) <;> simp

@[simp] theorem completeOut_frame (g : PontoonId) (x : Passage) (s : State) :
    let t := (completeOut g x s)
    t.pending = s.pending ∧ t.part = s.part ∧ t.trunk = s.trunk ∧ t.settings = s.settings ∧ t.clock = s.clock ∧
    t.register = s.register ∧ t.engine = s.engine ∧ t.ledger = s.ledger ∧ t.link = s.link ∧ t.power = s.power ∧
    t.water = s.water ∧ t.fuel = s.fuel ∧ t.access.officeRelease = s.access.officeRelease ∧ t.access.log = s.access.log ∧
    t.access.nextPosition = s.access.nextPosition ∧ t.access.nextSequence = s.access.nextSequence ∧ t.lines = s.lines ∧
    t.room = s.room := by dsimp only; unfold completeOut; (try dsimp only); (repeat' split) <;> simp

@[simp] theorem completePassage_frame (g : PontoonId) (x : Passage) (s : State) :
    let t := (completePassage g x s)
    t.pending = s.pending ∧ t.part = s.part ∧ t.trunk.node = s.trunk.node ∧ t.trunk.owed = s.trunk.owed ∧
    t.trunk.kept = s.trunk.kept ∧ t.trunk.cursor = s.trunk.cursor ∧ t.trunk.mode = s.trunk.mode ∧
    t.trunk.cause = s.trunk.cause ∧ t.trunk.commandStart = s.trunk.commandStart ∧ t.settings = s.settings ∧
    t.clock = s.clock ∧ t.register = s.register ∧ t.engine = s.engine ∧ t.ledger = s.ledger ∧ t.link = s.link ∧
    t.power = s.power ∧ t.water = s.water ∧ t.fuel = s.fuel ∧ t.access.officeRelease = s.access.officeRelease ∧
    t.lines = s.lines ∧ t.room = s.room := by dsimp only; unfold completePassage; (try dsimp only); (repeat' split) <;> simp

@[simp] theorem denyEntry_frame (g : PontoonId) (n : CardNumber) (r : DenyReason) (s : State) :
    let t := (denyEntry g n r s)
    t.pending = s.pending ∧ t.part = s.part ∧ t.trunk = s.trunk ∧ t.settings = s.settings ∧ t.clock = s.clock ∧
    t.register = s.register ∧ t.engine = s.engine ∧ t.ledger = s.ledger ∧ t.link.filter = s.link.filter ∧
    t.link.waterShown = s.link.waterShown ∧ t.power = s.power ∧ t.water = s.water ∧ t.fuel = s.fuel ∧
    t.access.credentials = s.access.credentials ∧ t.access.officeRelease = s.access.officeRelease ∧ t.lines = s.lines ∧
    t.room = s.room := by dsimp only; unfold denyEntry; (try dsimp only); (repeat' split) <;> simp

@[simp] theorem grantEntry_frame (g : PontoonId) (i : CredentialSlot) (c : Credential) (s : State) :
    let t := (grantEntry g i c s)
    t.pending = s.pending ∧ t.part = s.part ∧ t.trunk.node = s.trunk.node ∧ t.trunk.owed = s.trunk.owed ∧
    t.trunk.kept = s.trunk.kept ∧ t.trunk.cursor = s.trunk.cursor ∧ t.trunk.mode = s.trunk.mode ∧
    t.trunk.cause = s.trunk.cause ∧ t.trunk.commandStart = s.trunk.commandStart ∧ t.settings = s.settings ∧
    t.clock = s.clock ∧ t.register.pontoons = s.register.pontoons ∧ t.register.arrivals = s.register.arrivals ∧
    t.engine = s.engine ∧ t.ledger = s.ledger ∧ t.link.filter = s.link.filter ∧ t.power.feeders = s.power.feeders ∧
    t.power.programs = s.power.programs ∧ t.water = s.water ∧ t.fuel = s.fuel ∧
    t.access.credentials = s.access.credentials ∧ t.access.officeRelease = s.access.officeRelease ∧
    t.access.log = s.access.log ∧ t.access.nextPosition = s.access.nextPosition ∧
    t.access.nextSequence = s.access.nextSequence ∧ t.lines = s.lines ∧ t.room = s.room := by dsimp only; unfold grantEntry; (try dsimp only); (repeat' split) <;> simp

@[simp] theorem decideEntry_frame (g : PontoonId) (i : CredentialSlot) (c : Credential) (s : State) :
    let t := (decideEntry g i c s)
    t.pending = s.pending ∧ t.part = s.part ∧ t.trunk.node = s.trunk.node ∧ t.trunk.owed = s.trunk.owed ∧
    t.trunk.kept = s.trunk.kept ∧ t.trunk.cursor = s.trunk.cursor ∧ t.trunk.mode = s.trunk.mode ∧
    t.trunk.cause = s.trunk.cause ∧ t.trunk.commandStart = s.trunk.commandStart ∧ t.settings = s.settings ∧
    t.clock.value = s.clock.value ∧ t.clock.isSet = s.clock.isSet ∧ t.clock.rollover = s.clock.rollover ∧
    t.clock.nextAdvance = s.clock.nextAdvance ∧ t.register.pontoons = s.register.pontoons ∧
    t.register.arrivals = s.register.arrivals ∧ t.engine = s.engine ∧ t.ledger = s.ledger ∧
    t.link.filter = s.link.filter ∧ t.power.feeders = s.power.feeders ∧ t.power.programs = s.power.programs ∧
    t.water = s.water ∧ t.fuel = s.fuel ∧ t.access.credentials = s.access.credentials ∧
    t.access.officeRelease = s.access.officeRelease ∧ t.lines = s.lines ∧ t.room = s.room := by dsimp only; unfold decideEntry; (try dsimp only); (repeat' split) <;> simp

@[simp] theorem cardIn_frame (g : PontoonId) (n : CardNumber) (s : State) :
    let t := (cardIn g n s)
    t.pending = s.pending ∧ t.part = s.part ∧ t.trunk.node = s.trunk.node ∧ t.trunk.owed = s.trunk.owed ∧
    t.trunk.kept = s.trunk.kept ∧ t.trunk.cursor = s.trunk.cursor ∧ t.trunk.mode = s.trunk.mode ∧
    t.trunk.cause = s.trunk.cause ∧ t.trunk.commandStart = s.trunk.commandStart ∧ t.settings = s.settings ∧
    t.clock.value = s.clock.value ∧ t.clock.isSet = s.clock.isSet ∧ t.clock.rollover = s.clock.rollover ∧
    t.clock.nextAdvance = s.clock.nextAdvance ∧ t.register.pontoons = s.register.pontoons ∧
    t.register.arrivals = s.register.arrivals ∧ t.engine = s.engine ∧ t.ledger = s.ledger ∧
    t.link.filter = s.link.filter ∧ t.power.feeders = s.power.feeders ∧ t.power.programs = s.power.programs ∧
    t.water = s.water ∧ t.fuel = s.fuel ∧ t.access.credentials = s.access.credentials ∧
    t.access.officeRelease = s.access.officeRelease ∧ t.lines = s.lines ∧ t.room = s.room := by dsimp only; unfold cardIn; (try dsimp only); (repeat' split) <;> simp

@[simp] theorem letOut_frame (g : PontoonId) (n : Option CardNumber) (s : State) :
    let t := (letOut g n s)
    t.pending = s.pending ∧ t.part = s.part ∧ t.trunk = s.trunk ∧ t.settings = s.settings ∧ t.clock = s.clock ∧
    t.register = s.register ∧ t.engine = s.engine ∧ t.ledger = s.ledger ∧ t.link.filter = s.link.filter ∧
    t.link.waterShown = s.link.waterShown ∧ t.power = s.power ∧ t.water = s.water ∧ t.fuel = s.fuel ∧
    t.access.credentials = s.access.credentials ∧ t.access.officeRelease = s.access.officeRelease ∧ t.lines = s.lines ∧
    t.room = s.room := by dsimp only; unfold letOut; (try dsimp only); (repeat' split) <;> simp

@[simp] theorem takeReaderEvent_frame (g : PontoonId) (e : ReaderEvent) (s : State) :
    let t := (takeReaderEvent g e s)
    t.pending = s.pending ∧ t.part = s.part ∧ t.trunk.node = s.trunk.node ∧ t.trunk.owed = s.trunk.owed ∧
    t.trunk.kept = s.trunk.kept ∧ t.trunk.cursor = s.trunk.cursor ∧ t.trunk.mode = s.trunk.mode ∧
    t.trunk.cause = s.trunk.cause ∧ t.trunk.commandStart = s.trunk.commandStart ∧ t.settings = s.settings ∧
    t.clock.value = s.clock.value ∧ t.clock.isSet = s.clock.isSet ∧ t.clock.rollover = s.clock.rollover ∧
    t.clock.nextAdvance = s.clock.nextAdvance ∧ t.register.pontoons = s.register.pontoons ∧
    t.register.arrivals = s.register.arrivals ∧ t.engine = s.engine ∧ t.ledger = s.ledger ∧
    t.link.filter = s.link.filter ∧ t.power.feeders = s.power.feeders ∧ t.power.programs = s.power.programs ∧
    t.water = s.water ∧ t.fuel = s.fuel ∧ t.access.credentials = s.access.credentials ∧
    t.access.officeRelease = s.access.officeRelease ∧ t.lines = s.lines ∧ t.room = s.room := by dsimp only; unfold takeReaderEvent; (try dsimp only); (repeat' split) <;> simp

@[simp] theorem openDoor_frame (g : PontoonId) (s : State) :
    let t := (openDoor g s)
    t.pending = s.pending ∧ t.part = s.part ∧ t.trunk.node = s.trunk.node ∧ t.trunk.owed = s.trunk.owed ∧
    t.trunk.kept = s.trunk.kept ∧ t.trunk.cursor = s.trunk.cursor ∧ t.trunk.mode = s.trunk.mode ∧
    t.trunk.cause = s.trunk.cause ∧ t.trunk.commandStart = s.trunk.commandStart ∧ t.settings = s.settings ∧
    t.clock = s.clock ∧ t.register = s.register ∧ t.engine = s.engine ∧ t.ledger = s.ledger ∧
    t.link.filter = s.link.filter ∧ t.link.waterShown = s.link.waterShown ∧ t.power = s.power ∧ t.water = s.water ∧
    t.fuel = s.fuel ∧ t.access.officeRelease = s.access.officeRelease ∧ t.lines = s.lines ∧ t.room = s.room := by dsimp only; unfold openDoor; (try dsimp only); (repeat' split) <;> simp

@[simp] theorem takeDoor_frame (g : PontoonId) (isOpen : Bool) (s : State) :
    let t := (takeDoor g isOpen s)
    t.pending = s.pending ∧ t.part = s.part ∧ t.trunk.node = s.trunk.node ∧ t.trunk.owed = s.trunk.owed ∧
    t.trunk.kept = s.trunk.kept ∧ t.trunk.cursor = s.trunk.cursor ∧ t.trunk.mode = s.trunk.mode ∧
    t.trunk.cause = s.trunk.cause ∧ t.trunk.commandStart = s.trunk.commandStart ∧ t.settings = s.settings ∧
    t.clock = s.clock ∧ t.register = s.register ∧ t.engine = s.engine ∧ t.ledger = s.ledger ∧
    t.link.filter = s.link.filter ∧ t.link.waterShown = s.link.waterShown ∧ t.power = s.power ∧ t.water = s.water ∧
    t.fuel = s.fuel ∧ t.access.officeRelease = s.access.officeRelease ∧ t.lines = s.lines ∧ t.room = s.room := by dsimp only; unfold takeDoor; (try dsimp only); (repeat' split) <;> simp

@[simp] theorem takeReaderReport_frame (g : PontoonId) (doorOpen : Bool) (e : Option ReaderEvent) (s : State) :
    let t := (takeReaderReport g doorOpen e s)
    t.pending = s.pending ∧ t.part = s.part ∧ t.trunk.node = s.trunk.node ∧ t.trunk.owed = s.trunk.owed ∧
    t.trunk.kept = s.trunk.kept ∧ t.trunk.cursor = s.trunk.cursor ∧ t.trunk.mode = s.trunk.mode ∧
    t.trunk.cause = s.trunk.cause ∧ t.trunk.commandStart = s.trunk.commandStart ∧ t.settings = s.settings ∧
    t.clock.value = s.clock.value ∧ t.clock.isSet = s.clock.isSet ∧ t.clock.rollover = s.clock.rollover ∧
    t.clock.nextAdvance = s.clock.nextAdvance ∧ t.register.pontoons = s.register.pontoons ∧
    t.register.arrivals = s.register.arrivals ∧ t.engine = s.engine ∧ t.ledger = s.ledger ∧
    t.link.filter = s.link.filter ∧ t.power.feeders = s.power.feeders ∧ t.power.programs = s.power.programs ∧
    t.water = s.water ∧ t.fuel = s.fuel ∧ t.access.officeRelease = s.access.officeRelease ∧ t.lines = s.lines ∧
    t.room = s.room := by dsimp only; unfold takeReaderReport; (try dsimp only); (repeat' split) <;> simp

@[simp] theorem gateStationChanged_frame (st : StationId) (s : State) :
    let t := (gateStationChanged st s)
    t.pending = s.pending ∧ t.part = s.part ∧ t.trunk = s.trunk ∧ t.settings = s.settings ∧ t.clock = s.clock ∧
    t.register = s.register ∧ t.engine = s.engine ∧ t.ledger = s.ledger ∧ t.link = s.link ∧ t.power = s.power ∧
    t.water = s.water ∧ t.fuel = s.fuel ∧ t.access.credentials = s.access.credentials ∧
    t.access.officeRelease = s.access.officeRelease ∧ t.access.log = s.access.log ∧
    t.access.nextPosition = s.access.nextPosition ∧ t.access.nextSequence = s.access.nextSequence ∧ t.lines = s.lines ∧
    t.room = s.room := by dsimp only; unfold gateStationChanged; (try dsimp only); (repeat' split) <;> simp

@[simp] theorem joinRelease_frame (g : PontoonId) (s : State) :
    let t := (joinRelease g s)
    t.pending = s.pending ∧ t.part = s.part ∧ t.trunk = s.trunk ∧ t.settings = s.settings ∧ t.clock = s.clock ∧
    t.register = s.register ∧ t.engine = s.engine ∧ t.ledger = s.ledger ∧ t.link.filter = s.link.filter ∧
    t.link.waterShown = s.link.waterShown ∧ t.power = s.power ∧ t.water = s.water ∧ t.fuel = s.fuel ∧
    t.access.credentials = s.access.credentials ∧ t.access.officeRelease = s.access.officeRelease ∧
    t.access.log = s.access.log ∧ t.access.nextPosition = s.access.nextPosition ∧
    t.access.nextSequence = s.access.nextSequence ∧ t.lines = s.lines ∧ t.room = s.room := by dsimp only; unfold joinRelease; (try dsimp only); (repeat' split) <;> simp

@[simp] theorem releaseGate_frame (g : PontoonId) (s : State) :
    let t := (releaseGate g s)
    t.pending = s.pending ∧ t.part = s.part ∧ t.trunk = s.trunk ∧ t.settings = s.settings ∧ t.clock = s.clock ∧
    t.register = s.register ∧ t.engine = s.engine ∧ t.ledger = s.ledger ∧ t.link.filter = s.link.filter ∧
    t.link.waterShown = s.link.waterShown ∧ t.power = s.power ∧ t.water = s.water ∧ t.fuel = s.fuel ∧
    t.access.credentials = s.access.credentials ∧ t.access.officeRelease = s.access.officeRelease ∧ t.lines = s.lines ∧
    t.room = s.room := by dsimp only; unfold releaseGate; (try dsimp only); (repeat' split) <;> simp

@[simp] theorem releaseAll_frame (cause : ReleaseCause) (s : State) :
    let t := (releaseAll cause s)
    t.pending = s.pending ∧ t.part = s.part ∧ t.trunk.node = s.trunk.node ∧ t.trunk.owed = s.trunk.owed ∧
    t.trunk.kept = s.trunk.kept ∧ t.trunk.cursor = s.trunk.cursor ∧ t.trunk.mode = s.trunk.mode ∧
    t.trunk.cause = s.trunk.cause ∧ t.trunk.commandStart = s.trunk.commandStart ∧ t.settings = s.settings ∧
    t.clock = s.clock ∧ t.register = s.register ∧ t.engine = s.engine ∧ t.ledger = s.ledger ∧
    t.link.filter = s.link.filter ∧ t.link.waterShown = s.link.waterShown ∧ t.power = s.power ∧ t.water = s.water ∧
    t.fuel = s.fuel ∧ t.access.credentials = s.access.credentials ∧ t.access.officeRelease = s.access.officeRelease ∧
    t.lines = s.lines ∧ t.room = s.room := by dsimp only; unfold releaseAll; (try dsimp only); (repeat' split) <;> simp

@[simp] theorem secureGate_frame (g : PontoonId) (s : State) :
    let t := (secureGate g s)
    t.pending = s.pending ∧ t.part = s.part ∧ t.trunk = s.trunk ∧ t.settings = s.settings ∧ t.clock = s.clock ∧
    t.register = s.register ∧ t.engine = s.engine ∧ t.ledger = s.ledger ∧ t.link.filter = s.link.filter ∧
    t.link.waterShown = s.link.waterShown ∧ t.power = s.power ∧ t.water = s.water ∧ t.fuel = s.fuel ∧
    t.access.credentials = s.access.credentials ∧ t.access.officeRelease = s.access.officeRelease ∧
    t.access.log = s.access.log ∧ t.access.nextPosition = s.access.nextPosition ∧
    t.access.nextSequence = s.access.nextSequence ∧ t.lines = s.lines ∧ t.room = s.room := by dsimp only; unfold secureGate; (try dsimp only); (repeat' split) <;> simp

@[simp] theorem secureAll_frame (cause : ReleaseCause) (s : State) :
    let t := (secureAll cause s)
    t.pending = s.pending ∧ t.part = s.part ∧ t.trunk.node = s.trunk.node ∧ t.trunk.owed = s.trunk.owed ∧
    t.trunk.kept = s.trunk.kept ∧ t.trunk.cursor = s.trunk.cursor ∧ t.trunk.mode = s.trunk.mode ∧
    t.trunk.cause = s.trunk.cause ∧ t.trunk.commandStart = s.trunk.commandStart ∧ t.settings = s.settings ∧
    t.clock = s.clock ∧ t.register = s.register ∧ t.engine = s.engine ∧ t.ledger = s.ledger ∧
    t.link.filter = s.link.filter ∧ t.link.waterShown = s.link.waterShown ∧ t.power = s.power ∧ t.water = s.water ∧
    t.fuel = s.fuel ∧ t.access.credentials = s.access.credentials ∧ t.access.officeRelease = s.access.officeRelease ∧
    t.access.log = s.access.log ∧ t.access.nextPosition = s.access.nextPosition ∧
    t.access.nextSequence = s.access.nextSequence ∧ t.lines = s.lines ∧ t.room = s.room := by dsimp only; unfold secureAll; (try dsimp only); (repeat' split) <;> simp

@[simp] theorem takeFire_frame (l : TakenLevel) (s : State) :
    let t := (takeFire l s)
    t.pending = s.pending ∧ t.part = s.part ∧ t.trunk = s.trunk ∧ t.settings = s.settings ∧ t.clock = s.clock ∧
    t.register = s.register ∧ t.engine = s.engine ∧ t.ledger = s.ledger ∧ t.link = s.link ∧ t.power = s.power ∧
    t.water = s.water ∧ t.fuel = s.fuel ∧ t.access = s.access ∧ t.lines.signals = s.lines.signals ∧
    t.lines.estop = s.lines.estop ∧ t.room = s.room := by dsimp only; unfold takeFire; (repeat' split) <;> simp [State.room, State.stamp, State.now, State.arrivals, State.stay, State.berth, State.pontoon, State.account, State.holdSlot, State.branch, State.station, State.outlet, State.feeder, State.start, State.tap, State.tank, State.dispenser, State.gate, State.credential, State.signal]

@[simp] theorem setOfficeRelease_frame (b : Bool) (s : State) :
    let t := (setOfficeRelease b s)
    t.pending = s.pending ∧ t.part = s.part ∧ t.trunk = s.trunk ∧ t.settings = s.settings ∧ t.clock = s.clock ∧
    t.register = s.register ∧ t.engine = s.engine ∧ t.ledger = s.ledger ∧ t.link = s.link ∧ t.power = s.power ∧
    t.water = s.water ∧ t.fuel = s.fuel ∧ t.access.credentials = s.access.credentials ∧ t.access.gates = s.access.gates ∧
    t.access.log = s.access.log ∧ t.access.nextPosition = s.access.nextPosition ∧
    t.access.nextSequence = s.access.nextSequence ∧ t.lines = s.lines ∧ t.room = s.room := by dsimp only; unfold setOfficeRelease; (repeat' split) <;> simp [State.room, State.stamp, State.now, State.arrivals, State.stay, State.berth, State.pontoon, State.account, State.holdSlot, State.branch, State.station, State.outlet, State.feeder, State.start, State.tap, State.tank, State.dispenser, State.gate, State.credential, State.signal]

/-! ### Link -/

@[simp] theorem resetMonitor_frame (st : StationId) (s : State) :
    let t := (resetMonitor st s)
    t.pending = s.pending ∧ t.part = s.part ∧ t.trunk = s.trunk ∧ t.settings = s.settings ∧ t.clock = s.clock ∧
    t.register = s.register ∧ t.engine = s.engine ∧ t.ledger = s.ledger ∧ t.link = s.link ∧
    t.power.outlets = s.power.outlets ∧ t.power.starts = s.power.starts ∧ t.power.programs = s.power.programs ∧
    t.water = s.water ∧ t.fuel = s.fuel ∧ t.access = s.access ∧ t.lines = s.lines ∧ t.room = s.room := by dsimp only; unfold resetMonitor; (try dsimp only); (repeat' split) <;> simp

@[simp] theorem stationChanged_frame (st : StationId) (s : State) :
    let t := (stationChanged st s)
    t.pending = s.pending ∧ t.part = s.part ∧ t.trunk = s.trunk ∧ t.settings = s.settings ∧ t.clock = s.clock ∧
    t.register = s.register ∧ t.engine = s.engine ∧ t.ledger = s.ledger ∧ t.link = s.link ∧
    t.power.outlets = s.power.outlets ∧ t.power.starts = s.power.starts ∧ t.power.programs = s.power.programs ∧
    t.fuel.tanks = s.fuel.tanks ∧ t.fuel.journal = s.fuel.journal ∧ t.fuel.nextSale = s.fuel.nextSale ∧
    t.access.credentials = s.access.credentials ∧ t.access.officeRelease = s.access.officeRelease ∧
    t.access.log = s.access.log ∧ t.access.nextPosition = s.access.nextPosition ∧
    t.access.nextSequence = s.access.nextSequence ∧ t.lines = s.lines ∧ t.room = s.room := by dsimp only; unfold stationChanged; (try dsimp only); (repeat' split) <;> simp

@[simp] theorem enterStationState_frame (st : StationId) (x : StationState) (s : State) :
    let t := (enterStationState st x s)
    t.pending = s.pending ∧ t.part = s.part ∧ t.trunk = s.trunk ∧ t.settings = s.settings ∧ t.clock = s.clock ∧
    t.register = s.register ∧ t.engine = s.engine ∧ t.ledger = s.ledger ∧ t.link.branches = s.link.branches ∧
    t.link.filter = s.link.filter ∧ t.link.waterShown = s.link.waterShown ∧ t.power.outlets = s.power.outlets ∧
    t.power.starts = s.power.starts ∧ t.power.programs = s.power.programs ∧ t.fuel.tanks = s.fuel.tanks ∧
    t.fuel.journal = s.fuel.journal ∧ t.fuel.nextSale = s.fuel.nextSale ∧ t.access.credentials = s.access.credentials ∧
    t.access.officeRelease = s.access.officeRelease ∧ t.access.log = s.access.log ∧
    t.access.nextPosition = s.access.nextPosition ∧ t.access.nextSequence = s.access.nextSequence ∧ t.lines = s.lines ∧
    t.room = s.room := by dsimp only; unfold enterStationState; (try dsimp only); (repeat' split) <;> simp

@[simp] theorem movePast_frame (b : BranchId) (members : List (Nat × StationId)) (a : Nat) (s : State) :
    let t := (movePast b members a s)
    t.pending = s.pending ∧ t.part = s.part ∧ t.trunk = s.trunk ∧ t.settings = s.settings ∧ t.clock = s.clock ∧
    t.register = s.register ∧ t.engine = s.engine ∧ t.ledger = s.ledger ∧ t.link.stations = s.link.stations ∧
    t.link.filter = s.link.filter ∧ t.link.waterShown = s.link.waterShown ∧ t.power = s.power ∧ t.water = s.water ∧
    t.fuel = s.fuel ∧ t.access = s.access ∧ t.lines = s.lines ∧ t.room = s.room := by dsimp only; unfold movePast; (try dsimp only); (repeat' split) <;> simp

@[simp] theorem leaveRing_frame (b : BranchId) (a : Nat) (s : State) :
    let t := (leaveRing b a s)
    t.pending = s.pending ∧ t.part = s.part ∧ t.trunk = s.trunk ∧ t.settings = s.settings ∧ t.clock = s.clock ∧
    t.register = s.register ∧ t.engine = s.engine ∧ t.ledger = s.ledger ∧ t.link.stations = s.link.stations ∧
    t.link.filter = s.link.filter ∧ t.link.waterShown = s.link.waterShown ∧ t.power = s.power ∧ t.water = s.water ∧
    t.fuel = s.fuel ∧ t.access = s.access ∧ t.lines = s.lines ∧ t.room = s.room := by dsimp only; unfold leaveRing; (try dsimp only); (repeat' split) <;> simp

@[simp] theorem joinRing_frame (b : BranchId) (a : Nat) (s : State) :
    let t := (joinRing b a s)
    t.pending = s.pending ∧ t.part = s.part ∧ t.trunk = s.trunk ∧ t.settings = s.settings ∧ t.clock = s.clock ∧
    t.register = s.register ∧ t.engine = s.engine ∧ t.ledger = s.ledger ∧ t.link.stations = s.link.stations ∧
    t.link.filter = s.link.filter ∧ t.link.waterShown = s.link.waterShown ∧ t.power = s.power ∧ t.water = s.water ∧
    t.fuel = s.fuel ∧ t.access = s.access ∧ t.lines = s.lines ∧ t.room = s.room := by dsimp only; unfold joinRing; (try dsimp only); (repeat' split) <;> simp

@[simp] theorem unpollStation_frame (st : StationId) (s : State) :
    let t := (unpollStation st s)
    t.pending = s.pending ∧ t.part = s.part ∧ t.trunk = s.trunk ∧ t.settings = s.settings ∧ t.clock = s.clock ∧
    t.register = s.register ∧ t.engine = s.engine ∧ t.ledger = s.ledger ∧ t.link.branches = s.link.branches ∧
    t.link.filter = s.link.filter ∧ t.link.waterShown = s.link.waterShown ∧ t.power.outlets = s.power.outlets ∧
    t.power.starts = s.power.starts ∧ t.power.programs = s.power.programs ∧ t.fuel.tanks = s.fuel.tanks ∧
    t.fuel.journal = s.fuel.journal ∧ t.fuel.nextSale = s.fuel.nextSale ∧ t.access.credentials = s.access.credentials ∧
    t.access.officeRelease = s.access.officeRelease ∧ t.access.log = s.access.log ∧
    t.access.nextPosition = s.access.nextPosition ∧ t.access.nextSequence = s.access.nextSequence ∧ t.lines = s.lines ∧
    t.room = s.room := by dsimp only; unfold unpollStation; (try dsimp only); (repeat' split) <;> simp

@[simp] theorem stopPort_frame (b : BranchId) (s : State) :
    let t := (stopPort b s)
    t.pending = s.pending ∧ t.part = s.part ∧ t.trunk = s.trunk ∧ t.settings = s.settings ∧ t.clock = s.clock ∧
    t.register = s.register ∧ t.engine = s.engine ∧ t.ledger = s.ledger ∧ t.link.filter = s.link.filter ∧
    t.link.waterShown = s.link.waterShown ∧ t.power.outlets = s.power.outlets ∧ t.power.starts = s.power.starts ∧
    t.power.programs = s.power.programs ∧ t.fuel.tanks = s.fuel.tanks ∧ t.fuel.journal = s.fuel.journal ∧
    t.fuel.nextSale = s.fuel.nextSale ∧ t.access.credentials = s.access.credentials ∧
    t.access.officeRelease = s.access.officeRelease ∧ t.access.log = s.access.log ∧
    t.access.nextPosition = s.access.nextPosition ∧ t.access.nextSequence = s.access.nextSequence ∧ t.lines = s.lines ∧
    t.room = s.room := by dsimp only; unfold stopPort; (try dsimp only); (repeat' split) <;> simp

@[simp] theorem discoverStation_frame (st : StationId) (s : State) :
    let t := (discoverStation st s)
    t.pending = s.pending ∧ t.part = s.part ∧ t.trunk = s.trunk ∧ t.settings = s.settings ∧ t.clock = s.clock ∧
    t.register = s.register ∧ t.engine = s.engine ∧ t.ledger = s.ledger ∧ t.link.branches = s.link.branches ∧
    t.link.filter = s.link.filter ∧ t.link.waterShown = s.link.waterShown ∧ t.power.outlets = s.power.outlets ∧
    t.power.starts = s.power.starts ∧ t.power.programs = s.power.programs ∧ t.fuel.tanks = s.fuel.tanks ∧
    t.fuel.journal = s.fuel.journal ∧ t.fuel.nextSale = s.fuel.nextSale ∧ t.access.credentials = s.access.credentials ∧
    t.access.officeRelease = s.access.officeRelease ∧ t.access.log = s.access.log ∧
    t.access.nextPosition = s.access.nextPosition ∧ t.access.nextSequence = s.access.nextSequence ∧ t.lines = s.lines ∧
    t.room = s.room := by dsimp only; unfold discoverStation; (try dsimp only); (repeat' split) <;> simp

@[simp] theorem attendIfDue_frame (st : StationId) (s : State) :
    let t := (attendIfDue st s)
    t.pending = s.pending ∧ t.part = s.part ∧ t.trunk = s.trunk ∧ t.settings = s.settings ∧ t.clock = s.clock ∧
    t.register = s.register ∧ t.engine = s.engine ∧ t.ledger = s.ledger ∧ t.link.stations = s.link.stations ∧
    t.link.filter = s.link.filter ∧ t.link.waterShown = s.link.waterShown ∧ t.power = s.power ∧ t.water = s.water ∧
    t.fuel = s.fuel ∧ t.access = s.access ∧ t.lines = s.lines ∧ t.room = s.room := by dsimp only; unfold attendIfDue; (try dsimp only); (repeat' split) <;> simp

@[simp] theorem ringAtLowest_frame (b : BranchId) (s : State) :
    let t := (ringAtLowest b s)
    t.pending = s.pending ∧ t.part = s.part ∧ t.trunk = s.trunk ∧ t.settings = s.settings ∧ t.clock = s.clock ∧
    t.register = s.register ∧ t.engine = s.engine ∧ t.ledger = s.ledger ∧ t.link.stations = s.link.stations ∧
    t.link.filter = s.link.filter ∧ t.link.waterShown = s.link.waterShown ∧ t.power = s.power ∧ t.water = s.water ∧
    t.fuel = s.fuel ∧ t.access = s.access ∧ t.lines = s.lines ∧ t.room = s.room := by dsimp only; unfold ringAtLowest; (try dsimp only); (repeat' split) <;> simp

@[simp] theorem fillAttention_frame (b : BranchId) (s : State) :
    let t := (fillAttention b s)
    t.pending = s.pending ∧ t.part = s.part ∧ t.trunk = s.trunk ∧ t.settings = s.settings ∧ t.clock = s.clock ∧
    t.register = s.register ∧ t.engine = s.engine ∧ t.ledger = s.ledger ∧ t.link.stations = s.link.stations ∧
    t.link.filter = s.link.filter ∧ t.link.waterShown = s.link.waterShown ∧ t.power = s.power ∧ t.water = s.water ∧
    t.fuel = s.fuel ∧ t.access = s.access ∧ t.lines = s.lines ∧ t.room = s.room := by dsimp only; unfold fillAttention; (try dsimp only); (repeat' split) <;> simp

@[simp] theorem startPort_frame (b : BranchId) (s : State) :
    let t := (startPort b s)
    t.pending = s.pending ∧ t.part = s.part ∧ t.trunk = s.trunk ∧ t.settings = s.settings ∧ t.clock = s.clock ∧
    t.register = s.register ∧ t.engine = s.engine ∧ t.ledger = s.ledger ∧ t.link.filter = s.link.filter ∧
    t.link.waterShown = s.link.waterShown ∧ t.power.outlets = s.power.outlets ∧ t.power.starts = s.power.starts ∧
    t.power.programs = s.power.programs ∧ t.fuel.tanks = s.fuel.tanks ∧ t.fuel.journal = s.fuel.journal ∧
    t.fuel.nextSale = s.fuel.nextSale ∧ t.access.credentials = s.access.credentials ∧
    t.access.officeRelease = s.access.officeRelease ∧ t.access.log = s.access.log ∧
    t.access.nextPosition = s.access.nextPosition ∧ t.access.nextSequence = s.access.nextSequence ∧ t.lines = s.lines ∧
    t.room = s.room := by dsimp only; unfold startPort; (try dsimp only); (repeat' split) <;> simp

@[simp] theorem applyRate_frame (b : BranchId) (s : State) :
    let t := (applyRate b s)
    t.pending = s.pending ∧ t.part = s.part ∧ t.trunk = s.trunk ∧ t.settings = s.settings ∧ t.clock = s.clock ∧
    t.register = s.register ∧ t.engine = s.engine ∧ t.ledger = s.ledger ∧ t.link.filter = s.link.filter ∧
    t.link.waterShown = s.link.waterShown ∧ t.power.outlets = s.power.outlets ∧ t.power.starts = s.power.starts ∧
    t.power.programs = s.power.programs ∧ t.fuel.tanks = s.fuel.tanks ∧ t.fuel.journal = s.fuel.journal ∧
    t.fuel.nextSale = s.fuel.nextSale ∧ t.access.credentials = s.access.credentials ∧
    t.access.officeRelease = s.access.officeRelease ∧ t.access.log = s.access.log ∧
    t.access.nextPosition = s.access.nextPosition ∧ t.access.nextSequence = s.access.nextSequence ∧ t.lines = s.lines ∧
    t.room = s.room := by dsimp only; unfold applyRate; (try dsimp only); (repeat' split) <;> simp

@[simp] theorem enableStation_frame (st : StationId) (s : State) :
    let t := (enableStation st s)
    t.pending = s.pending ∧ t.part = s.part ∧ t.trunk = s.trunk ∧ t.settings = s.settings ∧ t.clock = s.clock ∧
    t.register = s.register ∧ t.engine = s.engine ∧ t.ledger = s.ledger ∧ t.link.filter = s.link.filter ∧
    t.link.waterShown = s.link.waterShown ∧ t.power.outlets = s.power.outlets ∧ t.power.starts = s.power.starts ∧
    t.power.programs = s.power.programs ∧ t.fuel.tanks = s.fuel.tanks ∧ t.fuel.journal = s.fuel.journal ∧
    t.fuel.nextSale = s.fuel.nextSale ∧ t.access.credentials = s.access.credentials ∧
    t.access.officeRelease = s.access.officeRelease ∧ t.access.log = s.access.log ∧
    t.access.nextPosition = s.access.nextPosition ∧ t.access.nextSequence = s.access.nextSequence ∧ t.lines = s.lines ∧
    t.room = s.room := by dsimp only; unfold enableStation; (try dsimp only); (repeat' split) <;> simp

@[simp] theorem completeDisable_frame (st : StationId) (b : BranchId) (a : Nat) (s : State) :
    let t := (completeDisable st b a s)
    t.pending = s.pending ∧ t.part = s.part ∧ t.trunk = s.trunk ∧ t.settings = s.settings ∧ t.clock = s.clock ∧
    t.register = s.register ∧ t.engine = s.engine ∧ t.ledger = s.ledger ∧ t.link.filter = s.link.filter ∧
    t.link.waterShown = s.link.waterShown ∧ t.power.outlets = s.power.outlets ∧ t.power.starts = s.power.starts ∧
    t.power.programs = s.power.programs ∧ t.fuel.tanks = s.fuel.tanks ∧ t.fuel.journal = s.fuel.journal ∧
    t.fuel.nextSale = s.fuel.nextSale ∧ t.access.credentials = s.access.credentials ∧
    t.access.officeRelease = s.access.officeRelease ∧ t.access.log = s.access.log ∧
    t.access.nextPosition = s.access.nextPosition ∧ t.access.nextSequence = s.access.nextSequence ∧ t.lines = s.lines ∧
    t.room = s.room := by dsimp only; unfold completeDisable; (try dsimp only); (repeat' split) <;> simp

@[simp] theorem dropDisabled_frame (st : StationId) (e : RelayEntry) (s : State) :
    let t := (dropDisabled st e s)
    t.pending = s.pending ∧ t.part = s.part ∧ t.trunk.node = s.trunk.node ∧ t.trunk.owed = s.trunk.owed ∧
    t.trunk.kept = s.trunk.kept ∧ t.trunk.cursor = s.trunk.cursor ∧ t.trunk.mode = s.trunk.mode ∧
    t.trunk.cause = s.trunk.cause ∧ t.trunk.commandStart = s.trunk.commandStart ∧ t.settings = s.settings ∧
    t.clock = s.clock ∧ t.register = s.register ∧ t.engine = s.engine ∧ t.ledger = s.ledger ∧ t.link = s.link ∧
    t.power = s.power ∧ t.water = s.water ∧ t.fuel = s.fuel ∧ t.access = s.access ∧ t.lines = s.lines ∧ t.room = s.room := by dsimp only; unfold dropDisabled; (try dsimp only); (repeat' split) <;> simp

@[simp] theorem disableStation_frame (st : StationId) (s : State) :
    let t := (disableStation st s)
    t.pending = s.pending ∧ t.part = s.part ∧ t.trunk.node = s.trunk.node ∧ t.trunk.owed = s.trunk.owed ∧
    t.trunk.kept = s.trunk.kept ∧ t.trunk.cursor = s.trunk.cursor ∧ t.trunk.mode = s.trunk.mode ∧
    t.trunk.cause = s.trunk.cause ∧ t.trunk.commandStart = s.trunk.commandStart ∧ t.settings = s.settings ∧
    t.clock = s.clock ∧ t.register = s.register ∧ t.engine = s.engine ∧ t.ledger = s.ledger ∧
    t.link.filter = s.link.filter ∧ t.link.waterShown = s.link.waterShown ∧ t.power.outlets = s.power.outlets ∧
    t.power.starts = s.power.starts ∧ t.power.programs = s.power.programs ∧ t.fuel.tanks = s.fuel.tanks ∧
    t.fuel.journal = s.fuel.journal ∧ t.fuel.nextSale = s.fuel.nextSale ∧ t.access.credentials = s.access.credentials ∧
    t.access.officeRelease = s.access.officeRelease ∧ t.access.log = s.access.log ∧
    t.access.nextPosition = s.access.nextPosition ∧ t.access.nextSequence = s.access.nextSequence ∧ t.lines = s.lines ∧
    t.room = s.room := by dsimp only; unfold disableStation; (try dsimp only); (repeat' split) <;> simp

@[simp] theorem settleDisabling_frame (st : StationId) (s : State) :
    let t := (settleDisabling st s)
    t.pending = s.pending ∧ t.part = s.part ∧ t.trunk = s.trunk ∧ t.settings = s.settings ∧ t.clock = s.clock ∧
    t.register = s.register ∧ t.engine = s.engine ∧ t.ledger = s.ledger ∧ t.link.filter = s.link.filter ∧
    t.link.waterShown = s.link.waterShown ∧ t.power.outlets = s.power.outlets ∧ t.power.starts = s.power.starts ∧
    t.power.programs = s.power.programs ∧ t.fuel.tanks = s.fuel.tanks ∧ t.fuel.journal = s.fuel.journal ∧
    t.fuel.nextSale = s.fuel.nextSale ∧ t.access.credentials = s.access.credentials ∧
    t.access.officeRelease = s.access.officeRelease ∧ t.access.log = s.access.log ∧
    t.access.nextPosition = s.access.nextPosition ∧ t.access.nextSequence = s.access.nextSequence ∧ t.lines = s.lines ∧
    t.room = s.room := by dsimp only; unfold settleDisabling; (try dsimp only); (repeat' split) <;> simp

@[simp] theorem applyStationWrite_frame (st : StationId) (v : StationSettings) (s : State) :
    let t := (applyStationWrite st v s)
    t.pending = s.pending ∧ t.part = s.part ∧ t.trunk.node = s.trunk.node ∧ t.trunk.owed = s.trunk.owed ∧
    t.trunk.kept = s.trunk.kept ∧ t.trunk.cursor = s.trunk.cursor ∧ t.trunk.mode = s.trunk.mode ∧
    t.trunk.cause = s.trunk.cause ∧ t.trunk.commandStart = s.trunk.commandStart ∧ t.settings = s.settings ∧
    t.clock = s.clock ∧ t.register = s.register ∧ t.engine = s.engine ∧ t.ledger = s.ledger ∧
    t.link.filter = s.link.filter ∧ t.link.waterShown = s.link.waterShown ∧ t.power.outlets = s.power.outlets ∧
    t.power.starts = s.power.starts ∧ t.power.programs = s.power.programs ∧ t.fuel.tanks = s.fuel.tanks ∧
    t.fuel.journal = s.fuel.journal ∧ t.fuel.nextSale = s.fuel.nextSale ∧ t.access.credentials = s.access.credentials ∧
    t.access.officeRelease = s.access.officeRelease ∧ t.access.log = s.access.log ∧
    t.access.nextPosition = s.access.nextPosition ∧ t.access.nextSequence = s.access.nextSequence ∧ t.lines = s.lines ∧
    t.room = s.room := by dsimp only; unfold applyStationWrite; (try dsimp only); (repeat' split) <;> simp

@[simp] theorem beginExchange_frame (b : BranchId) (st : StationId) (kind : ExchangeKind) (sent : List Byte) (s : State) :
    let t := (beginExchange b st kind sent s)
    t.pending = s.pending ∧ t.part = s.part ∧ t.trunk = s.trunk ∧ t.settings = s.settings ∧ t.clock = s.clock ∧
    t.register = s.register ∧ t.engine = s.engine ∧ t.ledger = s.ledger ∧ t.link.stations = s.link.stations ∧
    t.link.filter = s.link.filter ∧ t.link.waterShown = s.link.waterShown ∧ t.power = s.power ∧ t.water = s.water ∧
    t.fuel = s.fuel ∧ t.access = s.access ∧ t.lines = s.lines ∧ t.room = s.room := by dsimp only; unfold beginExchange; (try dsimp only); (repeat' split) <;> simp

@[simp] theorem sendPoll_frame (b : BranchId) (st : StationId) (s : State) :
    let t := (sendPoll b st s)
    t.pending = s.pending ∧ t.part = s.part ∧ t.trunk = s.trunk ∧ t.settings = s.settings ∧ t.clock = s.clock ∧
    t.register = s.register ∧ t.engine = s.engine ∧ t.ledger = s.ledger ∧ t.link.stations = s.link.stations ∧
    t.link.filter = s.link.filter ∧ t.link.waterShown = s.link.waterShown ∧ t.power = s.power ∧ t.water = s.water ∧
    t.fuel = s.fuel ∧ t.access = s.access ∧ t.lines = s.lines ∧ t.room = s.room := by dsimp only; unfold sendPoll; (try dsimp only); (repeat' split) <;> simp

@[simp] theorem dropUnserved_frame (b : BranchId) (v0 : List RelayEntry) (s : State) :
    let t := (dropUnserved b v0 s)
    t.pending = s.pending ∧ t.part = s.part ∧ t.trunk.node = s.trunk.node ∧ t.trunk.owed = s.trunk.owed ∧
    t.trunk.kept = s.trunk.kept ∧ t.trunk.cursor = s.trunk.cursor ∧ t.trunk.mode = s.trunk.mode ∧
    t.trunk.cause = s.trunk.cause ∧ t.trunk.commandStart = s.trunk.commandStart ∧ t.settings = s.settings ∧
    t.clock = s.clock ∧ t.register = s.register ∧ t.engine = s.engine ∧ t.ledger = s.ledger ∧
    t.link.stations = s.link.stations ∧ t.link.filter = s.link.filter ∧ t.link.waterShown = s.link.waterShown ∧
    t.power = s.power ∧ t.water = s.water ∧ t.fuel = s.fuel ∧ t.access = s.access ∧ t.lines = s.lines ∧ t.room = s.room := by
  dsimp only
  induction v0 generalizing s with
  | nil => simp [dropUnserved]
  | cons e l ih =>
    unfold dropUnserved
    (repeat' split) <;> simp [ih]

@[simp] theorem sendRelay_frame (b : BranchId) (s : State) :
    let t := (sendRelay b s).2
    t.pending = s.pending ∧ t.part = s.part ∧ t.trunk.node = s.trunk.node ∧ t.trunk.owed = s.trunk.owed ∧
    t.trunk.kept = s.trunk.kept ∧ t.trunk.cursor = s.trunk.cursor ∧ t.trunk.mode = s.trunk.mode ∧
    t.trunk.cause = s.trunk.cause ∧ t.trunk.commandStart = s.trunk.commandStart ∧ t.settings = s.settings ∧
    t.clock = s.clock ∧ t.register = s.register ∧ t.engine = s.engine ∧ t.ledger = s.ledger ∧
    t.link.stations = s.link.stations ∧ t.link.filter = s.link.filter ∧ t.link.waterShown = s.link.waterShown ∧
    t.power = s.power ∧ t.water = s.water ∧ t.fuel = s.fuel ∧ t.access = s.access ∧ t.lines = s.lines ∧ t.room = s.room := by dsimp only; unfold sendRelay; (try dsimp only); (repeat' split) <;> simp

@[simp] theorem ringPoll_frame (v0 : Nat) (v1 : BranchId) (s : State) :
    let t := (ringPoll v0 v1 s).2
    t.pending = s.pending ∧ t.part = s.part ∧ t.trunk = s.trunk ∧ t.settings = s.settings ∧ t.clock = s.clock ∧
    t.register = s.register ∧ t.engine = s.engine ∧ t.ledger = s.ledger ∧ t.link.filter = s.link.filter ∧
    t.link.waterShown = s.link.waterShown ∧ t.power = s.power ∧ t.water = s.water ∧ t.fuel = s.fuel ∧
    t.access = s.access ∧ t.lines = s.lines ∧ t.room = s.room := by
  dsimp only
  induction v0 generalizing v1 s with
  | zero => simp [ringPoll]
  | succ n ih =>
    unfold ringPoll
    simp only []
    (repeat' split) <;> simp [ih]

@[simp] theorem countSlot_frame (b : BranchId) (mark : Bool) (s : State) :
    let t := (countSlot b mark s)
    t.pending = s.pending ∧ t.part = s.part ∧ t.trunk = s.trunk ∧ t.settings = s.settings ∧ t.clock = s.clock ∧
    t.register = s.register ∧ t.engine = s.engine ∧ t.ledger = s.ledger ∧ t.link.stations = s.link.stations ∧
    t.link.filter = s.link.filter ∧ t.link.waterShown = s.link.waterShown ∧ t.power = s.power ∧ t.water = s.water ∧
    t.fuel = s.fuel ∧ t.access = s.access ∧ t.lines = s.lines ∧ t.room = s.room := by dsimp only; unfold countSlot; (try dsimp only); (repeat' split) <;> simp

@[simp] theorem ringPollSlot_frame (b : BranchId) (s : State) :
    let t := (ringPollSlot b s)
    t.pending = s.pending ∧ t.part = s.part ∧ t.trunk = s.trunk ∧ t.settings = s.settings ∧ t.clock = s.clock ∧
    t.register = s.register ∧ t.engine = s.engine ∧ t.ledger = s.ledger ∧ t.link.filter = s.link.filter ∧
    t.link.waterShown = s.link.waterShown ∧ t.power = s.power ∧ t.water = s.water ∧ t.fuel = s.fuel ∧
    t.access = s.access ∧ t.lines = s.lines ∧ t.room = s.room := by dsimp only; unfold ringPollSlot; (try dsimp only); (repeat' split) <;> simp

@[simp] theorem ringSlot_frame (b : BranchId) (s : State) :
    let t := (ringSlot b s)
    t.pending = s.pending ∧ t.part = s.part ∧ t.trunk.node = s.trunk.node ∧ t.trunk.owed = s.trunk.owed ∧
    t.trunk.kept = s.trunk.kept ∧ t.trunk.cursor = s.trunk.cursor ∧ t.trunk.mode = s.trunk.mode ∧
    t.trunk.cause = s.trunk.cause ∧ t.trunk.commandStart = s.trunk.commandStart ∧ t.settings = s.settings ∧
    t.clock = s.clock ∧ t.register = s.register ∧ t.engine = s.engine ∧ t.ledger = s.ledger ∧
    t.link.filter = s.link.filter ∧ t.link.waterShown = s.link.waterShown ∧ t.power = s.power ∧ t.water = s.water ∧
    t.fuel = s.fuel ∧ t.access = s.access ∧ t.lines = s.lines ∧ t.room = s.room := by dsimp only; unfold ringSlot; (try dsimp only); (repeat' split) <;> simp

@[simp] theorem attentionSlot_frame (b : BranchId) (s : State) :
    let t := (attentionSlot b s)
    t.pending = s.pending ∧ t.part = s.part ∧ t.trunk.node = s.trunk.node ∧ t.trunk.owed = s.trunk.owed ∧
    t.trunk.kept = s.trunk.kept ∧ t.trunk.cursor = s.trunk.cursor ∧ t.trunk.mode = s.trunk.mode ∧
    t.trunk.cause = s.trunk.cause ∧ t.trunk.commandStart = s.trunk.commandStart ∧ t.settings = s.settings ∧
    t.clock = s.clock ∧ t.register = s.register ∧ t.engine = s.engine ∧ t.ledger = s.ledger ∧
    t.link.filter = s.link.filter ∧ t.link.waterShown = s.link.waterShown ∧ t.power = s.power ∧ t.water = s.water ∧
    t.fuel = s.fuel ∧ t.access = s.access ∧ t.lines = s.lines ∧ t.room = s.room := by dsimp only; unfold attentionSlot; (try dsimp only); (repeat' split) <;> simp

@[simp] theorem chooseSlot_frame (b : BranchId) (s : State) :
    let t := (chooseSlot b s)
    t.pending = s.pending ∧ t.part = s.part ∧ t.trunk.node = s.trunk.node ∧ t.trunk.owed = s.trunk.owed ∧
    t.trunk.kept = s.trunk.kept ∧ t.trunk.cursor = s.trunk.cursor ∧ t.trunk.mode = s.trunk.mode ∧
    t.trunk.cause = s.trunk.cause ∧ t.trunk.commandStart = s.trunk.commandStart ∧ t.settings = s.settings ∧
    t.clock = s.clock ∧ t.register = s.register ∧ t.engine = s.engine ∧ t.ledger = s.ledger ∧
    t.link.filter = s.link.filter ∧ t.link.waterShown = s.link.waterShown ∧ t.power = s.power ∧ t.water = s.water ∧
    t.fuel = s.fuel ∧ t.access = s.access ∧ t.lines = s.lines ∧ t.room = s.room := by dsimp only; unfold chooseSlot; (try dsimp only); (repeat' split) <;> simp

@[simp] theorem closeExchange_frame (b : BranchId) (st : StationId) (s : State) :
    let t := (closeExchange b st s)
    t.pending = s.pending ∧ t.part = s.part ∧ t.trunk = s.trunk ∧ t.settings = s.settings ∧ t.clock = s.clock ∧
    t.register = s.register ∧ t.engine = s.engine ∧ t.ledger = s.ledger ∧ t.link.filter = s.link.filter ∧
    t.link.waterShown = s.link.waterShown ∧ t.power.outlets = s.power.outlets ∧ t.power.starts = s.power.starts ∧
    t.power.programs = s.power.programs ∧ t.fuel.tanks = s.fuel.tanks ∧ t.fuel.journal = s.fuel.journal ∧
    t.fuel.nextSale = s.fuel.nextSale ∧ t.access.credentials = s.access.credentials ∧
    t.access.officeRelease = s.access.officeRelease ∧ t.access.log = s.access.log ∧
    t.access.nextPosition = s.access.nextPosition ∧ t.access.nextSequence = s.access.nextSequence ∧ t.lines = s.lines ∧
    t.room = s.room := by dsimp only; unfold closeExchange; (try dsimp only); (repeat' split) <;> simp

@[simp] theorem clearExchange_frame (b : BranchId) (s : State) :
    let t := (clearExchange b s)
    t.pending = s.pending ∧ t.part = s.part ∧ t.trunk = s.trunk ∧ t.settings = s.settings ∧ t.clock = s.clock ∧
    t.register = s.register ∧ t.engine = s.engine ∧ t.ledger = s.ledger ∧ t.link.stations = s.link.stations ∧
    t.link.filter = s.link.filter ∧ t.link.waterShown = s.link.waterShown ∧ t.power = s.power ∧ t.water = s.water ∧
    t.fuel = s.fuel ∧ t.access = s.access ∧ t.lines = s.lines ∧ t.room = s.room := by dsimp only; unfold clearExchange; (try dsimp only); (repeat' split) <;> simp

@[simp] theorem missStation_frame (b : BranchId) (st : StationId) (s : State) :
    let t := (missStation b st s)
    t.pending = s.pending ∧ t.part = s.part ∧ t.trunk.node = s.trunk.node ∧ t.trunk.owed = s.trunk.owed ∧
    t.trunk.kept = s.trunk.kept ∧ t.trunk.cursor = s.trunk.cursor ∧ t.trunk.mode = s.trunk.mode ∧
    t.trunk.cause = s.trunk.cause ∧ t.trunk.commandStart = s.trunk.commandStart ∧ t.settings = s.settings ∧
    t.clock = s.clock ∧ t.register = s.register ∧ t.engine = s.engine ∧ t.ledger = s.ledger ∧
    t.link.branches = s.link.branches ∧ t.link.filter = s.link.filter ∧ t.link.waterShown = s.link.waterShown ∧
    t.power.outlets = s.power.outlets ∧ t.power.starts = s.power.starts ∧ t.power.programs = s.power.programs ∧
    t.fuel.tanks = s.fuel.tanks ∧ t.fuel.journal = s.fuel.journal ∧ t.fuel.nextSale = s.fuel.nextSale ∧
    t.access.credentials = s.access.credentials ∧ t.access.officeRelease = s.access.officeRelease ∧
    t.access.log = s.access.log ∧ t.access.nextPosition = s.access.nextPosition ∧
    t.access.nextSequence = s.access.nextSequence ∧ t.lines = s.lines ∧ t.room = s.room := by dsimp only; unfold missStation; (try dsimp only); (repeat' split) <;> simp

@[simp] theorem hearStation_frame (st : StationId) (s : State) :
    let t := (hearStation st s)
    t.pending = s.pending ∧ t.part = s.part ∧ t.trunk.node = s.trunk.node ∧ t.trunk.owed = s.trunk.owed ∧
    t.trunk.kept = s.trunk.kept ∧ t.trunk.cursor = s.trunk.cursor ∧ t.trunk.mode = s.trunk.mode ∧
    t.trunk.cause = s.trunk.cause ∧ t.trunk.commandStart = s.trunk.commandStart ∧ t.settings = s.settings ∧
    t.clock = s.clock ∧ t.register = s.register ∧ t.engine = s.engine ∧ t.ledger = s.ledger ∧
    t.link.branches = s.link.branches ∧ t.link.filter = s.link.filter ∧ t.link.waterShown = s.link.waterShown ∧
    t.power.outlets = s.power.outlets ∧ t.power.starts = s.power.starts ∧ t.power.programs = s.power.programs ∧
    t.fuel.tanks = s.fuel.tanks ∧ t.fuel.journal = s.fuel.journal ∧ t.fuel.nextSale = s.fuel.nextSale ∧
    t.access.credentials = s.access.credentials ∧ t.access.officeRelease = s.access.officeRelease ∧
    t.access.log = s.access.log ∧ t.access.nextPosition = s.access.nextPosition ∧
    t.access.nextSequence = s.access.nextSequence ∧ t.lines = s.lines ∧ t.room = s.room := by dsimp only; unfold hearStation; (try dsimp only); (repeat' split) <;> simp

@[simp] theorem takeStarted_frame (st : StationId) (started : Bool) (s : State) :
    let t := (takeStarted st started s)
    t.pending = s.pending ∧ t.part = s.part ∧ t.trunk.node = s.trunk.node ∧ t.trunk.owed = s.trunk.owed ∧
    t.trunk.kept = s.trunk.kept ∧ t.trunk.cursor = s.trunk.cursor ∧ t.trunk.mode = s.trunk.mode ∧
    t.trunk.cause = s.trunk.cause ∧ t.trunk.commandStart = s.trunk.commandStart ∧ t.settings = s.settings ∧
    t.clock = s.clock ∧ t.register = s.register ∧ t.engine = s.engine ∧ t.ledger = s.ledger ∧
    t.link.branches = s.link.branches ∧ t.link.filter = s.link.filter ∧ t.link.waterShown = s.link.waterShown ∧
    t.power = s.power ∧ t.water = s.water ∧ t.fuel = s.fuel ∧ t.access = s.access ∧ t.lines = s.lines ∧ t.room = s.room := by dsimp only; unfold takeStarted; (try dsimp only); (repeat' split) <;> simp

@[simp] theorem takeEventByte_frame (st : StationId) (ev : EventByte) (s : State) :
    let t := (takeEventByte st ev s).2
    t.pending = s.pending ∧ t.part = s.part ∧ t.trunk.node = s.trunk.node ∧ t.trunk.owed = s.trunk.owed ∧
    t.trunk.kept = s.trunk.kept ∧ t.trunk.cursor = s.trunk.cursor ∧ t.trunk.mode = s.trunk.mode ∧
    t.trunk.cause = s.trunk.cause ∧ t.trunk.commandStart = s.trunk.commandStart ∧ t.settings = s.settings ∧
    t.clock = s.clock ∧ t.register = s.register ∧ t.engine = s.engine ∧ t.ledger = s.ledger ∧
    t.link.branches = s.link.branches ∧ t.link.filter = s.link.filter ∧ t.power = s.power ∧ t.water = s.water ∧
    t.fuel = s.fuel ∧ t.access = s.access ∧ t.lines.fire = s.lines.fire ∧ t.lines.estop = s.lines.estop ∧ t.room = s.room := by dsimp only; unfold takeEventByte; (try dsimp only); (repeat' split) <;> simp

@[simp] theorem endRelay_frame (b : BranchId) (f : RelayEntry → Note) (s : State) :
    let t := (endRelay b f s)
    t.pending = s.pending ∧ t.part = s.part ∧ t.trunk.node = s.trunk.node ∧ t.trunk.owed = s.trunk.owed ∧
    t.trunk.kept = s.trunk.kept ∧ t.trunk.cursor = s.trunk.cursor ∧ t.trunk.mode = s.trunk.mode ∧
    t.trunk.cause = s.trunk.cause ∧ t.trunk.commandStart = s.trunk.commandStart ∧ t.settings = s.settings ∧
    t.clock = s.clock ∧ t.register = s.register ∧ t.engine = s.engine ∧ t.ledger = s.ledger ∧
    t.link.stations = s.link.stations ∧ t.link.filter = s.link.filter ∧ t.link.waterShown = s.link.waterShown ∧
    t.power = s.power ∧ t.water = s.water ∧ t.fuel = s.fuel ∧ t.access = s.access ∧ t.lines = s.lines ∧ t.room = s.room := by dsimp only; unfold endRelay; (try dsimp only); (repeat' split) <;> simp

@[simp] theorem failExchange_frame (b : BranchId) (x : Exchange) (why : RelayFailure) (s : State) :
    let t := (failExchange b x why s)
    t.pending = s.pending ∧ t.part = s.part ∧ t.trunk.node = s.trunk.node ∧ t.trunk.owed = s.trunk.owed ∧
    t.trunk.kept = s.trunk.kept ∧ t.trunk.cursor = s.trunk.cursor ∧ t.trunk.mode = s.trunk.mode ∧
    t.trunk.cause = s.trunk.cause ∧ t.trunk.commandStart = s.trunk.commandStart ∧ t.settings = s.settings ∧
    t.clock = s.clock ∧ t.register = s.register ∧ t.engine = s.engine ∧ t.ledger = s.ledger ∧
    t.link.filter = s.link.filter ∧ t.link.waterShown = s.link.waterShown ∧ t.power.outlets = s.power.outlets ∧
    t.power.starts = s.power.starts ∧ t.power.programs = s.power.programs ∧ t.fuel.tanks = s.fuel.tanks ∧
    t.fuel.journal = s.fuel.journal ∧ t.fuel.nextSale = s.fuel.nextSale ∧ t.access.credentials = s.access.credentials ∧
    t.access.officeRelease = s.access.officeRelease ∧ t.access.log = s.access.log ∧
    t.access.nextPosition = s.access.nextPosition ∧ t.access.nextSequence = s.access.nextSequence ∧ t.lines = s.lines ∧
    t.room = s.room := by dsimp only; unfold failExchange; (try dsimp only); (repeat' split) <;> simp

/-! ### Clock -/

/-- What a clock event does to a stay: it meets deadlines, once and for all, and changes nothing else (R185). -/
theorem Stay.atClock_eq (x : Stay) (t lead : Nat) :
    x.atClock t lead = { x with lapseMet := (x.atClock t lead).lapseMet, overstayMet := (x.atClock t lead).overstayMet,
                                leadMet := (x.atClock t lead).leadMet } := by
  unfold Stay.atClock; split <;> (try split) <;> rfl

/-- The fields of a stay that a clock event keeps. -/
@[simp] theorem Stay.atClock_frame (x : Stay) (t lead : Nat) :
    let y := x.atClock t lead
    y.settings = x.settings ∧ y.state = x.state ∧ y.berth = x.berth ∧ y.unplaced = x.unplaced ∧
    y.overstayNoted = x.overstayNoted ∧ y.allowanceLeft = x.allowanceLeft ∧ y.lastNight = x.lastNight := by
  dsimp only; rw [Stay.atClock_eq]; simp

/-- A lead submission that was met for a lead stays met at every clock event (R185). -/
theorem Stay.leadWasMet_atClock {x : Stay} {n : Nat} (t lead : Nat) (h : x.leadWasMet n = true) :
    (x.atClock t lead).leadWasMet n = true := by
  unfold Stay.atClock
  unfold Stay.leadWasMet at *
  cases hm : x.leadMet with
  | none => simp [hm] at h
  | some l =>
    have hl : l ≤ n := by simpa [hm] using h
    have hn : min lead l ≤ n := Nat.le_trans (Nat.min_le_right _ _) hl
    split <;> (try split) <;> simp_all

/-- What a clock event does to a hold: its expiry may be met, and nothing else changes (R51). -/
@[simp] theorem HoldRecord.atClock_frame (x : HoldRecord) (t : Nat) :
    let y := x.atClock t
    y.account = x.account ∧ y.amount = x.amount ∧ y.owner = x.owner ∧ y.placed = x.placed ∧ y.expiry = x.expiry := by
  dsimp only; unfold HoldRecord.atClock; split <;> (try split) <;> simp

/-- What a clock event does to a credential: its exit expiry may be met, and nothing else changes (R157). -/
@[simp] theorem Credential.atClock_frame (x : Credential) (t : Nat) :
    let y := x.atClock t
    y.number = x.number ∧ y.kind = x.kind ∧ y.stay = x.stay ∧ y.account = x.account ∧ y.pontoons = x.pontoons ∧
    y.validFrom = x.validFrom ∧ y.validTo = x.validTo ∧ y.state = x.state ∧ y.zone = x.zone ∧
    y.exitExpiry = x.exitExpiry := by
  dsimp only; unfold Credential.atClock; split <;> (try split) <;> simp

@[simp] theorem clockEvent_frame (s : State) :
    let t := (clockEvent s)
    t.pending = s.pending ∧ t.part = s.part ∧ t.trunk = s.trunk ∧ t.settings = s.settings ∧ t.clock = s.clock ∧
    t.register.pontoons = s.register.pontoons ∧ t.register.berths = s.register.berths ∧
    t.register.arrivals = s.register.arrivals ∧ t.engine = s.engine ∧ t.ledger.accounts = s.ledger.accounts ∧
    t.ledger.tariff = s.ledger.tariff ∧ t.ledger.rolloverDay = s.ledger.rolloverDay ∧ t.ledger.pass = s.ledger.pass ∧
    t.link = s.link ∧ t.power = s.power ∧ t.water = s.water ∧ t.fuel = s.fuel ∧ t.access.gates = s.access.gates ∧
    t.access.officeRelease = s.access.officeRelease ∧ t.access.log = s.access.log ∧
    t.access.nextPosition = s.access.nextPosition ∧ t.access.nextSequence = s.access.nextSequence ∧ t.lines = s.lines ∧
    t.room = s.room := by dsimp only; unfold clockEvent; (repeat' split) <;> simp [State.room, State.stamp, State.now, State.arrivals, State.stay, State.berth, State.pontoon, State.account, State.holdSlot, State.branch, State.station, State.outlet, State.feeder, State.start, State.tap, State.tank, State.dispenser, State.gate, State.credential, State.signal]

@[simp] theorem advanceClock_frame (s : State) :
    let t := (advanceClock s)
    t.pending = s.pending ∧ t.part.condition = s.part.condition ∧ t.part.retentionAgrees = s.part.retentionAgrees ∧
    t.part.setupStrapLow = s.part.setupStrapLow ∧ t.part.resetLow = s.part.resetLow ∧ t.part.draws = s.part.draws ∧ t.trunk = s.trunk ∧
    t.settings = s.settings ∧ t.clock.isSet = s.clock.isSet ∧ t.clock.rollover = s.clock.rollover ∧
    t.clock.unsetNoted = s.clock.unsetNoted ∧ t.register.pontoons = s.register.pontoons ∧
    t.register.berths = s.register.berths ∧ t.register.arrivals = s.register.arrivals ∧ t.engine = s.engine ∧
    t.ledger.accounts = s.ledger.accounts ∧ t.ledger.tariff = s.ledger.tariff ∧
    t.ledger.rolloverDay = s.ledger.rolloverDay ∧ t.ledger.pass = s.ledger.pass ∧ t.link = s.link ∧ t.power = s.power ∧
    t.water = s.water ∧ t.fuel = s.fuel ∧ t.access.gates = s.access.gates ∧
    t.access.officeRelease = s.access.officeRelease ∧ t.access.log = s.access.log ∧
    t.access.nextPosition = s.access.nextPosition ∧ t.access.nextSequence = s.access.nextSequence ∧ t.lines = s.lines ∧
    t.room = s.room := by dsimp only; unfold advanceClock; (repeat' split) <;> simp [State.room, State.stamp, State.now, State.arrivals, State.stay, State.berth, State.pontoon, State.account, State.holdSlot, State.branch, State.station, State.outlet, State.feeder, State.start, State.tap, State.tank, State.dispenser, State.gate, State.credential, State.signal]

@[simp] theorem stretchEnds_frame (i : Fin 2) (s : State) :
    let t := (stretchEnds i s)
    t.pending = s.pending ∧ t.part.condition = s.part.condition ∧ t.part.retentionAgrees = s.part.retentionAgrees ∧
    t.part.setupStrapLow = s.part.setupStrapLow ∧ t.part.resetLow = s.part.resetLow ∧ t.part.draws = s.part.draws ∧ t.trunk = s.trunk ∧
    t.settings = s.settings ∧ t.clock = s.clock ∧ t.register = s.register ∧ t.engine = s.engine ∧ t.ledger = s.ledger ∧
    t.link = s.link ∧ t.power = s.power ∧ t.water = s.water ∧ t.fuel = s.fuel ∧ t.access = s.access ∧
    t.lines.fire = s.lines.fire ∧ t.lines.estop = s.lines.estop ∧ t.room = s.room := by dsimp only; unfold stretchEnds; (try dsimp only); (repeat' split) <;> simp

/-! ### Management -/

@[simp] theorem answerRepeat_frame (h : ReqHeader) (code : Nat) (p : List Byte) (s : State) :
    let t := (answerRepeat h code p s)
    t.pending = s.pending ∧ t.part = s.part ∧ t.trunk.node = s.trunk.node ∧ t.trunk.kept = s.trunk.kept ∧
    t.trunk.cursor = s.trunk.cursor ∧ t.trunk.mode = s.trunk.mode ∧ t.trunk.cause = s.trunk.cause ∧
    t.trunk.commandStart = s.trunk.commandStart ∧ t.trunk.notices = s.trunk.notices ∧ t.trunk.lost = s.trunk.lost ∧
    t.settings = s.settings ∧ t.clock = s.clock ∧ t.register = s.register ∧ t.engine = s.engine ∧ t.ledger = s.ledger ∧
    t.link = s.link ∧ t.power = s.power ∧ t.water = s.water ∧ t.fuel = s.fuel ∧ t.access = s.access ∧ t.lines = s.lines ∧
    t.room = s.room := by dsimp only; unfold answerRepeat; (try dsimp only); (repeat' split) <;> simp

@[simp] theorem answerBusy_frame (h : ReqHeader) (code : Nat) (p : List Byte) (s : State) :
    let t := (answerBusy h code p s)
    t.pending = s.pending ∧ t.part = s.part ∧ t.trunk.node = s.trunk.node ∧ t.trunk.kept = s.trunk.kept ∧
    t.trunk.cursor = s.trunk.cursor ∧ t.trunk.mode = s.trunk.mode ∧ t.trunk.cause = s.trunk.cause ∧
    t.trunk.commandStart = s.trunk.commandStart ∧ t.trunk.notices = s.trunk.notices ∧ t.trunk.lost = s.trunk.lost ∧
    t.settings = s.settings ∧ t.clock = s.clock ∧ t.register = s.register ∧ t.engine = s.engine ∧ t.ledger = s.ledger ∧
    t.link = s.link ∧ t.power = s.power ∧ t.water = s.water ∧ t.fuel = s.fuel ∧ t.access = s.access ∧ t.lines = s.lines ∧
    t.room = s.room := by dsimp only; unfold answerBusy; (try dsimp only); (repeat' split) <;> simp

@[simp] theorem finishAnswer_frame (s : State) :
    let t := (finishAnswer s)
    t.pending = s.pending ∧ t.part = s.part ∧ t.trunk.kept = s.trunk.kept ∧ t.trunk.cursor = s.trunk.cursor ∧
    t.trunk.mode = s.trunk.mode ∧ t.trunk.cause = s.trunk.cause ∧ t.trunk.notices = s.trunk.notices ∧
    t.trunk.lost = s.trunk.lost ∧ t.settings = s.settings ∧ t.clock = s.clock ∧ t.register = s.register ∧
    t.engine = s.engine ∧ t.ledger = s.ledger ∧ t.link = s.link ∧ t.power = s.power ∧ t.water = s.water ∧
    t.fuel = s.fuel ∧ t.access = s.access ∧ t.lines = s.lines ∧ t.room = s.room := by dsimp only; unfold finishAnswer; (repeat' split) <;> simp [State.room, State.stamp, State.now, State.arrivals, State.stay, State.berth, State.pontoon, State.account, State.holdSlot, State.branch, State.station, State.outlet, State.feeder, State.start, State.tap, State.tank, State.dispenser, State.gate, State.credential, State.signal]

@[simp] theorem changeGateUse_frame (p : PontoonId) (was : Bool) (is : Bool) (s : State) :
    let t := (changeGateUse p was is s)
    t.pending = s.pending ∧ t.part = s.part ∧ t.trunk = s.trunk ∧ t.settings = s.settings ∧ t.clock = s.clock ∧
    t.register = s.register ∧ t.engine = s.engine ∧ t.ledger = s.ledger ∧ t.link.filter = s.link.filter ∧
    t.link.waterShown = s.link.waterShown ∧ t.power = s.power ∧ t.water = s.water ∧ t.fuel = s.fuel ∧
    t.access.credentials = s.access.credentials ∧ t.access.officeRelease = s.access.officeRelease ∧
    t.access.log = s.access.log ∧ t.access.nextPosition = s.access.nextPosition ∧
    t.access.nextSequence = s.access.nextSequence ∧ t.lines = s.lines ∧ t.room = s.room := by dsimp only; unfold changeGateUse; (try dsimp only); (repeat' split) <;> simp

@[simp] theorem applyPontoonWrite_frame (p : PontoonId) (v : PontoonSettings) (s : State) :
    let t := (applyPontoonWrite p v s)
    t.pending = s.pending ∧ t.part = s.part ∧ t.trunk = s.trunk ∧ t.settings = s.settings ∧ t.clock = s.clock ∧
    t.register.berths = s.register.berths ∧ t.register.stays = s.register.stays ∧
    t.register.arrivals = s.register.arrivals ∧ t.engine = s.engine ∧ t.ledger = s.ledger ∧
    t.link.filter = s.link.filter ∧ t.link.waterShown = s.link.waterShown ∧ t.power.feeders = s.power.feeders ∧
    t.power.programs = s.power.programs ∧ t.water = s.water ∧ t.fuel = s.fuel ∧
    t.access.credentials = s.access.credentials ∧ t.access.officeRelease = s.access.officeRelease ∧
    t.access.log = s.access.log ∧ t.access.nextPosition = s.access.nextPosition ∧
    t.access.nextSequence = s.access.nextSequence ∧ t.lines = s.lines ∧ t.room = s.room := by dsimp only; unfold applyPontoonWrite; (try dsimp only); (repeat' split) <;> simp

@[simp] theorem runPort_frame (b : BranchId) (s : State) :
    let t := (runPort b s)
    t.pending = s.pending ∧ t.part = s.part ∧ t.trunk = s.trunk ∧ t.settings = s.settings ∧ t.clock = s.clock ∧
    t.register = s.register ∧ t.engine = s.engine ∧ t.ledger = s.ledger ∧ t.link.stations = s.link.stations ∧
    t.link.filter = s.link.filter ∧ t.link.waterShown = s.link.waterShown ∧ t.power = s.power ∧ t.water = s.water ∧
    t.fuel = s.fuel ∧ t.access = s.access ∧ t.lines = s.lines ∧ t.room = s.room := by dsimp only; unfold runPort; (try dsimp only); (repeat' split) <;> simp

end Sys2Proof.Machine
end

