-- ==== Sys2Proof/Laws/Requests.lean ====
section
/-! SUPPORT. What taking a request comes to, said once: a request that is taken ends in the event of its owner's work and its
owed answer; one that is not taken is answered or discarded without its owner. -/

namespace Sys2Proof.Machine

/-- The event of a running part. -/
theorem event_running (f : State → State) (s : State) (h : s.part.condition = .running) :
    event f s = .next (finish (f s)) := by
  simp [event, h]

/-- A part that does not run takes no event. -/
theorem event_halted (f : State → State) (s : State) (h : s.part.condition ≠ .running) : event f s = .next s := by
  simp [event, h]

/-- A telegram that is no good request changes nothing. -/
theorem takeRequest_bad {s : State} {h : ReqHeader} {code : Nat} {p : List Byte} (w : s.goodRequest h code p = false)
    (owner : Owner) : takeRequest h code p owner s = s := by
  simp [takeRequest, w]

/-- A telegram for another node is no good request. -/
theorem goodRequest_other {s : State} {h : ReqHeader} (w : h.node ≠ s.trunk.node) (code : Nat) (p : List Byte) :
    s.goodRequest h code p = false := by
  simp [State.goodRequest, w]

/-- A good request that comes while an answer is owed gets BUSY. -/
theorem takeRequest_busy {s : State} {h : ReqHeader} {code : Nat} {p : List Byte} (g : s.goodRequest h code p = true)
    (w : s.trunk.owed ≠ []) (owner : Owner) : takeRequest h code p owner s = owe (s.answer h .busy) s := by
  simp [takeRequest, g, w]

/-- A repeat gets the kept answer. -/
theorem takeRequest_repeat {s : State} {h : ReqHeader} {code : Nat} {p : List Byte} {a : Answer}
    (g : s.goodRequest h code p = true) (f : s.trunk.owed = []) (w : s.repeatAnswer h code = some a) (owner : Owner) :
    takeRequest h code p owner s = owe a s := by
  simp [takeRequest, g, f, w]

/-- A request that the Trunk Port hears. -/
theorem takeRequest_heard {s : State} {h : ReqHeader} {code : Nat} {p : List Byte} (w : s.Hears h code p) (owner : Owner) :
    takeRequest h code p owner s = takeFresh h code p owner s := by
  simp [takeRequest, w.good, w.free, w.fresh]

/-- A heard request of a wrong length is refused BAD_VALUE without its owner. -/
theorem takeFresh_badLength {code : Nat} {p : List Byte} (w : lengthFits code p = false) (h : ReqHeader) (owner : Owner)
    (s : State) : takeFresh h code p owner s = takeFresh h code p (refuse .badValue) s := by
  simp [takeFresh, w]

/-- A request of a right length is its owner's. -/
theorem request_taken {s : State} {h : ReqHeader} {code : Nat} {p : List Byte} (w : s.Takes h code p) (owner : Owner) :
    request h code p owner s = .next (finish (takeFresh h code p owner s)) := by
  simp [request, event_running _ _ w.running, takeRequest_heard w.toHears]

/-- What a taken request leaves is what its owner leaves, but for the answers owed and kept. -/
theorem takeFresh_fields {code : Nat} {p : List Byte} (w : lengthFits code p = true) (h : ReqHeader) (owner : Owner)
    (s : State) :
    let t := takeFresh h code p owner s
    let u := (owner s).1
    t.pending = u.pending ∧ t.part = u.part ∧ t.settings = u.settings ∧ t.clock = u.clock ∧ t.register = u.register ∧
    t.engine = u.engine ∧ t.ledger = u.ledger ∧ t.link = u.link ∧ t.power = u.power ∧ t.water = u.water ∧
    t.fuel = u.fuel ∧ t.access = u.access ∧ t.lines = u.lines ∧ t.trunk.node = u.trunk.node ∧
    t.trunk.cursor = u.trunk.cursor ∧ t.trunk.mode = u.trunk.mode ∧ t.trunk.cause = u.trunk.cause ∧
    t.trunk.commandStart = u.trunk.commandStart ∧ t.trunk.notices = u.trunk.notices ∧ t.trunk.lost = u.trunk.lost ∧
    t.trunk.owed = u.trunk.owed ++ [s.answer h (owner s).2] ∧
    t.trunk.kept = some { tag := h.tag, code := code, length := h.length, check := h.check,
                          answer := s.answer h (owner s).2 } := by
  simp [takeFresh, owe, w]

/-- A record write of its table's length is the write. -/
theorem recordWrite_sized {n : Nat} {p : List Byte} (w : p.length = n + 2) (write : Nat → List Byte → Owner) :
    recordWrite n write p = write (rd p 0 2) (p.drop 2) := by
  simp [recordWrite, w]

/-- A record write of another length is refused BAD_VALUE. -/
theorem recordWrite_badLength {n : Nat} {p : List Byte} (w : p.length ≠ n + 2) (write : Nat → List Byte → Owner) :
    recordWrite n write p = refuse .badValue := by
  simp [recordWrite, w]

end Sys2Proof.Machine
end

