-- ==== Sys2Proof/Tests/Slice0.lean ====
section
/-! SUPPORT. The model's own tests: well-formedness, the check and the layouts, bytes read by hand, and for each statement of
Obligations.lean a state and operands that meet its hypotheses, clause by clause. -/

namespace Sys2Proof.Tests

-- One theorem at a time: the kernel evaluations would otherwise wait for each other on a thread each.
set_option Elab.async false

open Sys2Proof Sys2Proof.Machine

/-! ### Well-formedness: an ill-formed term for each check -/

/-- The header of a request for node 1 with tag 1 and the right length and check. -/
def hd (code : Nat) (w : List Byte) : ReqHeader :=
  { node := 1, tag := 1, length := w.length
    check := (crc16 (requestBytes { node := 1, tag := 1, length := w.length, check := 0 } code w)).toNat }

theorem test_wellFormed_header :
    let h := hd 1 []
    (Instr.status h []).wellFormed = true ∧ (Instr.status { h with node := 0 } []).wellFormed = false ∧
    (Instr.status { h with node := 255 } []).wellFormed = false ∧ (Instr.status { h with tag := 256 } []).wellFormed = false ∧
    (Instr.status { h with length := 121 } []).wellFormed = false ∧
    (Instr.status { h with check := 65536 } []).wellFormed = false := by decide +kernel
theorem test_wellFormed_payload :
    let h := hd 6 []
    let w := List.replicate 120 0
    (Instr.relay h w).wellFormed = true ∧ (Instr.relay h (0 :: w)).wellFormed = false ∧
    (Instr.writeStayRecord h w).wellFormed = false ∧ (Instr.writeRecord h w).wellFormed = true := by decide +kernel
theorem test_wellFormed_codes :
    let h := hd 7 []
    (Instr.unknownCode h 255 []).wellFormed = true ∧ (Instr.unknownCode h 256 []).wellFormed = false ∧
    (Instr.requestRepeat h 256 []).wellFormed = false ∧ (Instr.requestBusy h 256 []).wellFormed = false := by decide +kernel

/-! ### The check and the codings (R193, R196) -/

theorem test_check_of_nine_digits :
    crc16 [0x31, 0x32, 0x33, 0x34, 0x35, 0x36, 0x37, 0x38, 0x39] = 0x29B1 ∧
    withCheck [0x31, 0x32, 0x33, 0x34, 0x35, 0x36, 0x37, 0x38, 0x39] =
      [0x31, 0x32, 0x33, 0x34, 0x35, 0x36, 0x37, 0x38, 0x39, 0xB1, 0x29] := by decide +kernel
theorem test_coding_of_numbers :
    le 2 0x1234 = [0x34, 0x12] ∧ leInt 4 (-2) = [0xFE, 0xFF, 0xFF, 0xFF] ∧ opt 2 none = [0xFF, 0xFF] ∧
    rd [0x34, 0x12] 0 2 = 0x1234 ∧ rdOpt [0xFF, 0xFF] 0 2 = none ∧ rdPresent [0, 9, 9] 0 2 = some none ∧
    rdPresent [1, 9, 0] 0 2 = some (some 9) ∧ rdPresent [2, 9, 0] 0 2 = none := by decide +kernel
theorem test_effective_price_rounds_half_up :
    effectivePrice 25 10 = 28 ∧ effectivePrice 25 (-10) = 23 ∧ effectivePrice 5 (-50) = 3 := by decide
theorem test_largest_step : largestStep 9 = none ∧ largestStep 10 = some 10 ∧ largestStep 62 = some 32 ∧
    largestStep 1000 = some 125 ∧ largestStep (-1) = none := by decide
theorem test_window_wraps : inWindow 10 100 50 true = true ∧ inWindow 60 100 50 true = false ∧
    inWindow 60 50 50 true = true ∧ inWindow 60 50 50 false = false := by decide
theorem test_day_number : dayNumber 43199 43200 = -1 ∧ dayNumber 43200 43200 = 0 ∧ dayNumber 129600 43200 = 1 := by decide

/-! ### Small states -/

/-- The part right after reset, from which the states below are built. -/
def base : State := State.reset

/-- The same in SETUP mode. -/
def setupMode : State := { base with trunk := { base.trunk with mode := .setup } }

/-- The request with this code and payload, its length and check right, is handed to its owner. -/
def Hands (s : State) (code : Nat) (w : List Byte) : Prop := s.Takes (hd code w) code w

/-- The payload of a WRITE RECORD behind its table's byte: index `i` and the settings that `g` holds there. -/
def wr (t : TableName) (g : State) (i : Nat) : List Byte :=
  le 2 i ++ ((readRecord g t i).getD []).take (t.writeLength.getD 0)

/-- The record write with this payload is handed to its owner. -/
def Writing (s : State) (t : TableName) (w : List Byte) (i : Nat) : Prop :=
  s.Writes (hd 0x05 (BitVec.ofNat 8 t.ctorIdx :: w)) t w i

/-- A running part of node 1 that owes nothing and has kept nothing takes every request of a right length. -/
theorem handed {s : State} {code : Nat} {w : List Byte} (r : s.part.condition = .running := by rfl)
    (n : s.trunk.node = 1 := by rfl) (o : s.trunk.owed = [] := by rfl) (k : s.trunk.kept = none := by rfl)
    (f : lengthFits code w = true := by decide +kernel) : Hands s code w :=
  { running := r
    good := by simp [State.goodRequest, soundRequest, hd, n, requestBytes]
    free := o
    fresh := by simp [State.repeatAnswer, k]
    sized := f }

theorem writing {s : State} {t : TableName} {w : List Byte} {i : Nat} (r : s.part.condition = .running := by rfl)
    (n : s.trunk.node = 1 := by rfl) (o : s.trunk.owed = [] := by rfl) (k : s.trunk.kept = none := by rfl)
    (f : (lengthFits 5 (BitVec.ofNat 8 t.ctorIdx :: w) && decide (t.writeLength = some (w.length - 2)) &&
          decide (rd w 0 2 = i)) = true := by decide +kernel) : Writing s t w i := by
  simp only [Bool.and_eq_true, decide_eq_true_eq] at f
  exact { taken := handed r n o k f.1.1, sized := f.1.2, index := f.2 }

def pontoonV : PontoonSettings :=
  { gatePresent := true, capacity := 100, reserve := 10, commitLimit := 50, peopleCapacity := 20, passbackStrict := false,
    curfewStart := 0, curfewEnd := 100, curfewMode := 1, vf := 207, vr := 216 }
def stayV : StaySettings :=
  { loa := 100, beam := 30, draft := 10, power := .a16, priority := 1, allowance := 50, account := 0, arrival := 100,
    departure := 200, holdGrace := 1, prefs := 0, autoArrive := true }

/-- An EXPECTED and an ARRIVED stay, held or not. -/
def expectedStay : Stay := { Stay.emptied with settings := stayV, state := .expected }
def heldStay : Stay := { expectedStay with berth := some 7 }
def arrivedStay : Stay := { heldStay with state := .arrived }

/-- An OPEN account with 1,000 cents. -/
def openAccount : Account := { Account.fullClear with state := .open, balance := 1000 }

/-- The clock set to 150. -/
def clockSet (s : State) : State := { s with clock := { s.clock with value := 150, isSet := true } }

/-- The answer that a command leaves owed. -/
def answered (o : Host.Outcome State Fault Refusal) : Option AnswerBody :=
  match o with
  | .next t => t.trunk.owed.head?.map (·.body)
  | _ => none

/-- The state that a command leaves. -/
def left (o : Host.Outcome State Fault Refusal) : Option State :=
  match o with
  | .next t => some t
  | _ => none

/-! ### Bytes read by hand (R172, R193 to R196) -/

/-- A berth that fits the test stay, with an outlet, on a pontoon with room. -/
def fitBerth : Berth := { Berth.fullClear with maxLoa := 120, maxBeam := 40, depth := 30, outlets := [3] }
def harbour : State := ((base.setBerth 7 fitBerth).setPontoon 0 pontoonV).setStay 5 expectedStay

/-- ASSIGN of stay 5 to berth 7: node 1, REQUEST, tag 9, code, length, two ids, check. -/
def assignBytes : List Byte := withCheck [1, 1, 9, 0x11, 4, 5, 0, 7, 0]

theorem test_request_bytes :
    ((left (exec (.trunkTelegramDiscarded assignBytes) harbour)).map (fun t => (t.berth 7).currentStay)) =
      some (some 5) ∧
    (readTelegram assignBytes).map (fun x => (x.1.tag, x.1.length, x.2)) = some (9, 4, 0x11, [5, 0, 7, 0]) ∧
    readTelegram (withCheck [1, 2, 9, 0x11, 4, 5, 0, 7, 0]) = none := by decide +kernel
theorem test_bad_requests_are_discarded :
    let found (bytes : List Byte) : Option (Nat × Option StayId) :=
      (left (exec (.trunkTelegramDiscarded bytes) harbour)).map (fun t => (t.trunk.owed.length, (t.berth 7).currentStay))
    found ([1, 1, 9, 0x11, 4, 5, 0, 7, 0] ++ [0, 0]) = some (0, none) ∧
    found (withCheck [2, 1, 9, 0x11, 4, 5, 0, 7, 0]) = some (0, none) ∧
    found (withCheck [1, 1, 9, 0x11, 3, 5, 0, 7, 0]) = some (0, none) ∧ found assignBytes = some (1, some 5) := by
  decide +kernel

/-- A post at address 5 with one outlet and one tap: a plug that draws 255 A at counter 5,010, a flow of 258, no event. -/
def postX : Station := { Station.fullClear with kind := .post, address := 5, outletCount := some 1, tapCount := some 1 }

theorem test_post_report_bytes :
    let payload : List Byte := [0x03, 255, 0x92, 0x13, 0, 0, 0x02, 2, 1, 0, 0]
    postX.goodReport (withCheck ([5, 2, 3, 11] ++ payload)) =
      some ({ number := 3, event := false, started := false },
        .post [{ plug := true, energised := true, leakage := false, overcurrent := false, current := 255, energy := 5010 }]
          [{ valveOpen := false, flowing := true, flow := 258 }] none) ∧
    postX.goodReport ([5, 2, 3, 11] ++ payload ++ [0, 0]) = none ∧
    postX.goodReport (withCheck ([5, 2, 3, 10] ++ payload)) = none ∧
    postX.goodReport (withCheck ([6, 2, 3, 11] ++ payload)) = none ∧
    postX.goodReport (withCheck ([5, 2, 0x13, 12] ++ payload ++ [0])) =
      some ({ number := 3, event := true, started := false },
        .post [{ plug := true, energised := true, leakage := false, overcurrent := false, current := 255, energy := 5010 }]
          [{ valveOpen := false, flowing := true, flow := 258 }] (some 0)) ∧
    postX.goodReport (withCheck ([5, 2, 0x13, 12] ++ payload ++ [1])) = none := by decide +kernel
theorem test_reader_dispenser_and_monitor_bytes :
    ({ postX with kind := .gateReader } : Station).goodReport (withCheck [5, 2, 0x31, 6, 1, 1, 0x4D, 0, 0, 0]) =
      some ({ number := 1, event := true, started := true }, .reader true (some (.cardOut 77))) ∧
    ({ postX with kind := .dispenser } : Station).goodReport (withCheck [5, 2, 2, 5, 5, 0x88, 0x13, 0, 0]) =
      some ({ number := 2, event := false, started := false }, .dispenser true false true 5000 none) ∧
    ({ postX with kind := .feederMonitor } : Station).goodReport (withCheck [5, 2, 0x10, 5, 230, 0, 16, 0, 1]) =
      some ({ number := 0, event := false, started := false }, .monitor 230 16 true) ∧
    replyParts 5 kindRelayAnswer (withCheck [5, 4, 7, 2, 1, 2]) = some (7, [1, 2]) := by decide +kernel

/-! ### Witnesses: the queue, the trunk, the management handler -/

theorem witness_StepTakesFrontCommand : ∃ (c : Instr) (rest : List Instr) (s : State), s.pending = c :: rest :=
  ⟨.answerSent, [.scanStep], { base with pending := [.answerSent, .scanStep] }, rfl⟩

theorem witness_EmptyQueueLetsTimePass :
    (∃ s : State, s.pending = [] ∧ s.part.condition ≠ .running) ∧
    (∃ s : State, s.pending = [] ∧ s.part.condition = .running ∧ (s.now + 1) % 10 = 0 ∧ s.lines.fire.taken ≠ .asserted ∧
      s.lines.fire.pinLow = true ∧ s.lines.fire.lastSample = some s.lines.fire.pinLow ∧ s.lines.estop.taken ≠ .asserted ∧
      s.lines.estop.pinLow = true ∧ s.lines.estop.lastSample = some s.lines.estop.pinLow) ∧
    (∃ s : State, s.pending = [] ∧ s.part.condition = .running ∧ (s.now + 1) % 10 = 0 ∧ s.lines.fire.taken ≠ .released ∧
      s.lines.fire.pinLow = false ∧ s.lines.fire.lastSample = some s.lines.fire.pinLow ∧ s.lines.estop.taken ≠ .released ∧
      s.lines.estop.pinLow = false ∧ s.lines.estop.lastSample = some s.lines.estop.pinLow) ∧
    (∃ s : State, s.pending = [] ∧ s.part.condition = .running ∧ (s.now + 1) % 10 ≠ 0) ∧
    (∃ (s : State) (e : Nat), s.pending = [] ∧ s.part.condition = .running ∧ e ≤ s.now + 1 ∧
      (s.outlet 0).startTimer = some e ∧ (s.outlet 1).graceTimer = some e ∧ (s.feeder 0).stepTimer = some e ∧
      (s.tap 0).runTimer = some e ∧ (s.gate 0).unlockEnd = some e ∧ s.clock.isSet = true ∧
      s.clock.nextAdvance ≤ s.now + 1) ∧
    (∃ (s : State) (e : Nat) (x : Exchange), s.pending = [] ∧ s.part.condition = .running ∧ e ≤ s.now + 1 ∧
      { item := ReadItem.tap 3, endAt := e } ∈ (s.berth 0).outstanding ∧ (s.dispenser 0).nozzleTimer = some e ∧
      (s.dispenser 1).settleTimer = some e ∧ (s.gate 0).heldTimer = some e ∧ (s.branch 0).exchange = some x ∧
      x.replyBegun = false ∧ x.timeoutAt ≤ s.now + 1 ∧ (s.branch 1).idleUntil = some e ∧ (s.signal 0).timer = some e) :=
  ⟨⟨halt .inReset base, rfl, by decide⟩,
   ⟨{ base with part := { base.part with timeBase := 9 }
                lines := { base.lines with fire := { pinLow := true, lastSample := some true, taken := .released }
                                           estop := { pinLow := true, lastSample := some true, taken := .unknown } } },
    rfl, rfl, rfl, by decide, rfl, rfl, by decide, rfl, rfl⟩,
   ⟨{ base with part := { base.part with timeBase := 9 }
                lines := { base.lines with fire := { pinLow := false, lastSample := some false, taken := .asserted }
                                           estop := { pinLow := false, lastSample := some false, taken := .unknown } } },
    rfl, rfl, rfl, by decide, rfl, rfl, by decide, rfl, rfl⟩,
   ⟨base, rfl, rfl, by decide⟩,
   ⟨clockSet ((((((base.setOutlet 0 { Outlet.fullClear with startTimer := some 1 }).setOutlet 1
      { Outlet.fullClear with graceTimer := some 1 }).setFeeder 0 { Feeder.fullClear with stepTimer := some 1 }).setTap 0
      { Tap.fullClear with runTimer := some 1 }).setGate 0 { Gate.fullClear with unlockEnd := some 1 })),
    1, rfl, rfl, by decide, by decide +kernel, by decide +kernel, by decide +kernel, by decide +kernel, by decide +kernel, rfl,
    by decide⟩,
   ⟨((((((base.setBerth 0 { Berth.fullClear with outstanding := [{ item := .tap 3, endAt := 1 }] }).setDispenser 0
      { Dispenser.fullClear with nozzleTimer := some 1 }).setDispenser 1
      { Dispenser.fullClear with settleTimer := some 1 }).setGate 0 { Gate.fullClear with heldTimer := some 1 }).setBranch 0
      { Branch.fullClear with
        exchange := some { station := 0, kind := .poll, sent := [], timeoutAt := 1, replyBegun := false,
                           discard := false } }).setBranch 1 { Branch.fullClear with idleUntil := some 1 }).setSignal 0
      { Signal.fullClear with timer := some 1 },
    1, _, rfl, rfl, by decide, by decide +kernel, by decide +kernel, by decide +kernel, by decide +kernel, rfl, rfl, by decide,
    by decide +kernel, by decide +kernel⟩⟩

theorem witness_HaltedPartTakesNoEvent :
    let s := halt .inReset base
    let c := Instr.clockAdvance
    s.part.condition ≠ .running ∧ (∀ held e l, c ≠ .powerUp held e l) ∧ (∀ b, c ≠ .powerLoss b) ∧ c ≠ .resetAsserted ∧
      ∀ e l, c ≠ .resetReleased e l := by
  refine ⟨by decide, by simp, by simp, by simp, by simp⟩

theorem witness_HaltedPartTakesNoEvent_starts :
    base.part.condition = .running ∧ (halt .inReset base).part.condition = .inReset ∧
    (∀ agrees, let s := { halt .unpowered base with part := { (halt .unpowered base).part with retentionAgrees := agrees } }
      s.part.condition = .unpowered ∧ s.part.resetLow = false) ∧
    ∀ c, let s : State := { base with trunk := { base.trunk with commandStart := c } }
      s.part.condition = .running ∧ s.trunk.commandStart = c :=
  ⟨rfl, rfl, fun _ => ⟨rfl, rfl⟩, fun _ => ⟨rfl, rfl⟩⟩

theorem witness_RefusalChangesNothing : ∃ t,
    base.trunk.owed = [] ∧ exec (.run (hd 0x61 []) []) base = .next t ∧
    t.trunk.owed = [base.answer (hd 0x61 []) (.refused .state 0)] :=
  ⟨_, rfl, request_taken (handed (s := base)) runOwner, by decide +kernel⟩

/-- A state with an answer owed, and one with a kept STATUS. -/
def owedState : State := { base with trunk := { base.trunk with owed := [base.answer (hd 1 []) .busy] } }
def keptState : State :=
  { base with trunk := { base.trunk with
      kept := some { tag := 1, code := 1, length := 0, check := (hd 1 []).check, answer := base.answer (hd 1 []) .busy } } }

theorem witness_TelegramsThatReachNoOwner :
    (readTelegram (withCheck [1, 2, 1, 0, 0]) = none ∧ base.part.condition = .running) ∧
    (base.goodRequest { hd 1 [] with node := 2 } 1 [] = false ∧ base.goodRequest { hd 1 [] with check := 0 } 1 [] = false ∧
      base.goodRequest { hd 1 [] with length := 1 } 1 [] = false ∧
      asked? (.status { hd 1 [] with node := 2 } []) = some ({ hd 1 [] with node := 2 }, 1, [])) ∧
    (base.Hears (hd 7 []) 7 [] ∧ knownCode 7 = false) ∧
    (base.Hears (hd 0x50 []) 0x50 [] ∧ asked? (.assign (hd 0x11 [0]) [0]) = some (hd 0x11 [0], 0x11, [0]) ∧
      lengthFits 0x11 [0] = false) ∧
    (Hands base 0x18 (le 2 240) ∧ idLimit 0x18 = some 240 ∧ 240 ≤ rd (le 2 240) 0 2 ∧
      asked? (.openBerth (hd 0x18 (le 2 240)) (le 2 240)) = some (hd 0x18 (le 2 240), 0x18, le 2 240)) := by
  refine ⟨⟨by decide +kernel, rfl⟩, ⟨by decide +kernel, by decide +kernel, by decide +kernel, by simp [asked?]⟩,
    ⟨(handed : Hands base 7 []).toHears, by decide⟩,
    ⟨(handed : Hands base 0x50 []).toHears, by simp [asked?], by decide⟩,
    ⟨handed, rfl, by decide +kernel, by simp [asked?]⟩⟩

theorem witness_RepeatBusyAndAnswerSent :
    (∃ k, keptState.part.condition = .running ∧ keptState.goodRequest (hd 1 []) k.code [] = true ∧
      keptState.trunk.owed = [] ∧ keptState.trunk.kept = some k ∧ k.tag = (hd 1 []).tag ∧ k.length = (hd 1 []).length ∧
      k.check = (hd 1 []).check ∧ asked? (.status (hd 1 []) []) = some (hd 1 [], k.code, [])) ∧
    (owedState.part.condition = .running ∧ owedState.goodRequest (hd 1 []) 1 [] = true ∧ owedState.trunk.owed ≠ []) ∧
    (∀ c ∈ [CommandStart.none, .restartAsked, .clearAsked],
      let s : State := { owedState with trunk := { owedState.trunk with commandStart := c } }
      s.part.condition = .running ∧ s.trunk.owed = [base.answer (hd 1 []) .busy] ∧ s.trunk.commandStart = c) := by
  refine ⟨⟨_, rfl, by decide +kernel, rfl, rfl, rfl, rfl, by dsimp only, by simp [asked?]⟩,
    ⟨rfl, by decide +kernel, by simp [owedState]⟩, ?_⟩
  intro c _
  exact ⟨rfl, rfl, rfl⟩

theorem witness_TelegramBytesReachTheirOwner :
    ((Instr.assign (hd 0x11 (le 4 0)) (le 4 0)).wellFormed = true ∧
      asked? (.assign (hd 0x11 (le 4 0)) (le 4 0)) = some (hd 0x11 (le 4 0), 0x11, le 4 0)) ∧
    ((Instr.unknownCode (hd 255 []) 255 []).wellFormed = true ∧ knownCode 255 = false) ∧
    (Report.fits (.post
        [{ plug := true, energised := true, leakage := true, overcurrent := true, current := 255, energy := 4294967295 }]
        [{ valveOpen := true, flowing := true, flow := 0 }] (some 0)) postX
      { number := 15, event := true, started := true } ∧ postX.address < 256) ∧
    Report.fits (.reader true (some .exitButton)) { postX with kind := .gateReader }
      { number := 0, event := true, started := false } ∧
    Report.fits (.dispenser true true true 4294967295 none) { postX with kind := .dispenser }
      { number := 0, event := false, started := false } ∧
    Report.fits (.monitor 65535 65535 true) { postX with kind := .feederMonitor }
      { number := 0, event := false, started := false } ∧ (List.replicate 48 (255 : Byte)).length ≤ 48 := by
  refine ⟨⟨by decide +kernel, by simp [asked?]⟩, ⟨by decide +kernel, by decide⟩, ⟨?_, by decide⟩, ?_, ?_, ?_, by decide⟩ <;>
    simp [Report.fits, postX]

theorem bounded (c : Cursor) (p : c.position < c.table.size) (l : 1 ≤ c.count) (m : c.count ≤ 4) :
    ({ base with trunk := { base.trunk with cursor := some c } } : State).WithinBounds :=
  ⟨show base.trunk.notices.length ≤ _ by decide, show base.clock.value ≤ _ by decide,
    show base.clock.isSet = false → base.clock.value = 0 by decide, rfl, by intro d e; cases e; exact ⟨p, l, m⟩⟩

theorem witness_StatusNoticesAndPartMode :
    (Hands base 0x01 [] ∧ base.WithinBounds) ∧ (Hands base 0x02 [] ∧ base.trunk.notices ≠ []) ∧
    (let s : State := { base with trunk := { base.trunk with notices := [] } }
     Hands s 0x02 [] ∧ s.trunk.notices = []) ∧
    (Hands setupMode 0x61 [] ∧ Hands setupMode 0x63 [] ∧ setupMode.trunk.mode = .setup) ∧
    (Hands base 0x61 [] ∧ Hands base 0x62 [] ∧ Hands base 0x63 [] ∧ base.trunk.mode = .run) :=
  ⟨⟨handed, by decide, by decide, by decide, rfl, by intro c e; cases e⟩, ⟨handed, by decide⟩, ⟨handed, rfl⟩,
    ⟨handed, handed, rfl⟩, ⟨handed, handed, handed, rfl⟩⟩

theorem witness_RecordWindowMovesPastTheRecordsRead :
    (∀ w ∈ [[2, 239, 0, 1], [2, 0, 0, 4]], lengthFits 3 w = true ∧ TableName.ofCode (rd w 0 1) = some .berth ∧
      rd w 1 2 < TableName.berth.size ∧ 1 ≤ rd w 3 1 ∧ rd w 3 1 ≤ 4) ∧
    (TableName.ofCode (rd [21, 0, 0, 1] 0 1) = none ∧ TableName.berth.size ≤ rd [2, 240, 0, 1] 1 2 ∧
      rd [2, 0, 0, 0] 3 1 = 0 ∧ 4 < rd [2, 0, 0, 5] 3 1) ∧
    (Hands base 3 [2, 239, 0, 1] ∧ Hands base 3 [21, 0, 0, 1] ∧ Hands base 3 [2, 0, 0, 5]) ∧
    (let s : State := { base with trunk := { base.trunk with cursor := some { table := .stay, position := 255, count := 4 } } }
     Hands s 4 [] ∧ s.trunk.cursor.isSome = true ∧ s.WithinBounds) ∧
    (Hands base 4 [] ∧ base.trunk.cursor = none) ∧
    (255 < TableName.stay.size ∧ TableName.stay ∉ [.hold, .credential, .passageLog]) :=
  ⟨by decide +kernel, by decide +kernel, ⟨handed, handed, handed⟩,
    ⟨handed, rfl, bounded { table := .stay, position := 255, count := 4 } (by decide) (by decide) (by decide)⟩,
    ⟨handed, rfl⟩, by decide⟩

/-- A start record for pontoon 11: 30 s, 300 percent. -/
def startBytes : List Byte := [11, 0, 30, 0, 44, 1]

theorem witness_WriteRecordIsTheRowOfItsTable :
    (Writing base .start startBytes 11 ∧ 11 < TableName.start.size ∧
      answered (exec (.writeRecord (hd 5 (12 :: startBytes)) (12 :: startBytes)) base) = some (.done [])) ∧
    (Hands base 5 [6, 15, 0] ∧ TableName.ofCode 6 = some .hold ∧ TableName.hold.writeLength = none ∧
      rd [6, 15, 0] 1 2 < TableName.hold.size) ∧
    (Hands base 5 [21, 0, 0] ∧ TableName.ofCode 21 = none) ∧
    (Hands base 5 [12, 12, 0, 30, 0, 44, 1] ∧ TableName.start.size ≤ rd [12, 12, 0, 30, 0, 44, 1] 1 2) ∧
    (Hands base 5 [12, 11, 0, 30, 0, 44] ∧ TableName.start.writeLength = some 4) :=
  ⟨⟨writing, by decide, by decide +kernel⟩, ⟨handed, rfl, rfl, by decide +kernel⟩, ⟨handed, rfl⟩,
    ⟨handed, by decide +kernel⟩, ⟨handed, rfl⟩⟩

/-- A start record of 0 s, and a berth record whose every byte is 255: out of range. -/
def badStart : List Byte := [11, 0, 0, 0, 44, 1]
def badBerth : List Byte := le 2 7 ++ List.replicate (TableName.berth.writeLength.getD 0) 255

theorem witness_WriteRecordIsTheRowOfItsTable_ranges :
    (Writing base .start badStart 11 ∧ TableName.start.row (hd 5 (12 :: badStart)) badStart =
      some (.writeStartRecord (hd 5 (12 :: badStart)) badStart) ∧ base.writable .start 11 ∧
      ¬ TableName.start.admits (badStart.drop 2)) ∧
    (Writing base .berth badBerth 7 ∧ base.writable .berth 7 ∧ ¬ TableName.berth.admits (badBerth.drop 2)) := by
  refine ⟨⟨writing, rfl, trivial, ?_⟩, ⟨writing, ?_, ?_⟩⟩
  · show ¬ (checkStart _).isSome = true
    decide +kernel
  · show ∀ b : BerthId, b.val = 7 → (base.berth b).state = .free ∨ (base.berth b).state = .closed
    decide +kernel
  · show ¬ (checkBerth _).isSome = true
    decide +kernel

/-! ### Witnesses: settings, berths and stays, the Fit Engine -/

/-- A signal record that keeps all seven sources and the greatest stretch, as bytes. -/
def signalBytes : List Byte := [1, 0, 127, 1, 0, 3, 0]

theorem witness_WriteRangesAreTheRulesRanges :
    (checkMarina (rdMarina base.settings.coded)).isSome = true ∧ (checkPontoon (rdPontoon ((wr .pontoon harbour 0).drop 2))).isSome = true ∧
    (checkBerth (rdBerth ((wr .berth harbour 7).drop 2))).isSome = true ∧
    (checkStay (rdStay ((wr .stay harbour 5).drop 2))).isSome = true ∧
    (checkAccount (rdAccount ((wr .account base 0).drop 2))).isSome = true ∧
    (checkTariff (rdTariff ((wr .tariff base 0).drop 2))).isSome = true ∧
    (checkBranch (rdBranch ((wr .branch base 0).drop 2))).isSome = true ∧
    (checkStation (rdStation [4, 5, 0, 31, 1, 255, 255, 11, 0])).isSome = true ∧
    (checkFilter (rdFilter [0, 1, 2, 3])).isSome = true ∧ (checkOutlet (rdOutlet ((wr .outlet base 0).drop 2))).isSome = true ∧
    (checkStart (rdStart (startBytes.drop 2))).isSome = true ∧
    (stepsChecked (rdProgram ((wr .program base 0).drop 2))).isSome = true ∧
    (checkTap (rdTap ((wr .tap base 0).drop 2))).isSome = true ∧ (checkTank (rdTank ((wr .tank base 0).drop 2))).isSome = true ∧
    (checkDispenser (rdDispenser ((wr .dispenser base 0).drop 2))).isSome = true ∧
    (checkCredential (rdCredential ([77, 0, 0, 0, 2, 255, 255, 255, 255, 1, 0] ++ List.replicate 9 0))).isSome = true ∧
    (checkGate (rdGate ((wr .gate base 0).drop 2))).isSome = true ∧
    (checkSignal (rdSignal (signalBytes.drop 2))).isSome = true := by decide +kernel

/-- A state in which a pontoon sheds. -/
def shedding : State := base.setFeeder 3 { Feeder.fullClear with state := .shedding }

theorem witness_SettingsWriteReplacesItsRecord :
    Writing base .marina (wr .marina base 0) 0 ∧ Writing base .tariff (wr .tariff base 0) 0 ∧
    Writing base .filter [3, 0, 0, 1, 2, 3] 3 ∧ Writing base .start startBytes 11 ∧
    (Writing base .program (wr .program base 1) 1 ∧
      ∀ p : PontoonId, (base.feeder p).state ≠ .restoring ∧ (base.feeder p).state ≠ .shedding) ∧
    (Writing shedding .program (wr .program base 0) 0 ∧ (shedding.feeder 3).state = .shedding) ∧
    Writing base .signal signalBytes 1 :=
  ⟨writing, writing, writing, writing, ⟨writing, by decide +kernel⟩, ⟨writing, by decide +kernel⟩, writing⟩

/-- The settings of `pontoonV` on pontoon 11 in other states, and with no gate, less capacity or a lower commit limit. -/
def onEleven (v : PontoonSettings) : State := base.setPontoon 11 v
def gateless : PontoonSettings := { pontoonV with gatePresent := false }
def officeOn : State := { onEleven gateless with access := { base.access with officeRelease := true } }
def passage : Passage := { credential := none, direction := .out, grantTime := 0 }
def used : State :=
  (onEleven pontoonV).setOutlet 191 { Outlet.fullClear with state := .on, granted := 16, grantPontoon := some 11 }

theorem witness_PontoonWriteReplacesSettings :
    (let w := wr .pontoon (onEleven pontoonV) 11
     Writing (onEleven pontoonV) .pontoon w 11 ∧ checkPontoon (rdPontoon (w.drop 2)) = some pontoonV ∧
     (onEleven pontoonV).committedAmps 11 ≤ pontoonV.commitLimit ∧
     (onEleven pontoonV).usedAmps 11 ≤ pontoonV.capacity - pontoonV.reserve) ∧
    (let w := wr .pontoon (onEleven gateless) 11
     let s := onEleven pontoonV
     Writing s .pontoon w 11 ∧ checkPontoon (rdPontoon (w.drop 2)) = some gateless ∧
     (s.pontoon 11).gatePresent = true ∧ (s.gate 11).passages = [] ∧ (s.gate 11).lock ≠ .unlocked) ∧
    (let w := wr .pontoon (onEleven pontoonV) 11
     Writing officeOn .pontoon w 11 ∧ (officeOn.pontoon 11).gatePresent = false ∧ officeOn.gatesReleased = true) ∧
    (let s := (harbour.setBerth 7 { fitBerth with state := .held, currentStay := some 5 }).setStay 5 heldStay
     let w := wr .pontoon (base.setPontoon 0 { pontoonV with commitLimit := 15 }) 0
     Writing s .pontoon w 0 ∧ checkPontoon (rdPontoon (w.drop 2)) = some { pontoonV with commitLimit := 15 } ∧
     15 < s.committedAmps 0) ∧
    (let w := wr .pontoon (onEleven { pontoonV with capacity := 25 }) 11
     Writing used .pontoon w 11 ∧ checkPontoon (rdPontoon (w.drop 2)) = some { pontoonV with capacity := 25 } ∧
     25 - 10 < used.usedAmps 11) ∧
    (let s := (onEleven pontoonV).setGate 11 { Gate.fullClear with passages := [passage] }
     Writing s .pontoon (wr .pontoon (onEleven gateless) 11) 11 ∧ (s.gate 11).passages ≠ []) :=
  ⟨⟨writing, by decide +kernel⟩, ⟨writing, by decide +kernel⟩, ⟨writing, by decide +kernel⟩, ⟨writing, by decide +kernel⟩,
    ⟨writing, by decide +kernel⟩, ⟨writing, by decide +kernel⟩⟩

theorem witness_BerthWriteOpenAndClose :
    (let g := base.setBerth 239 { fitBerth with outlets := [0, 191], tap := some 127 }
     let w := wr .berth g 239
     let s := (base.setBerth 239 { Berth.fullClear with state := .closed, outlets := [0, 5], tap := some 3 }).setOutlet 191
       { Outlet.fullClear with state := .plugged }
     Writing s .berth w 239 ∧ (s.berth 239).state = .closed ∧
     (checkBerth (rdBerth (w.drop 2))).map (fun v => (v.outlets, v.tap)) = some ([0, 191], some 127) ∧
     (∀ o ∈ [0, 191], (s.outlet o).berth = none) ∧ (s.tap 127).berth = none ∧ (s.outlet 191).state = .plugged) ∧
    (let w := wr .berth harbour 7
     let s := (base.setOutlet 3 { Outlet.fullClear with berth := some 8 })
     Writing s .berth w 7 ∧ (s.berth 7).state = .free ∧ (s.outlet 3).berth = some 8 ∧
     (checkBerth (rdBerth (w.drop 2))).map (fun v => v.outlets) = some [3]) ∧
    (let w := wr .berth (base.setBerth 7 { fitBerth with tap := some 0 }) 7
     let s := (base.setTap 0 { Tap.fullClear with berth := some 8 })
     Writing s .berth w 7 ∧ (s.tap 0).berth = some 8 ∧ (checkBerth (rdBerth (w.drop 2))).map (fun v => v.tap) = some (some 0)) ∧
    (let s := base.setBerth 7 { fitBerth with state := .held }
     Writing s .berth (wr .berth harbour 7) 7 ∧ (s.berth 7).state ≠ .free ∧ (s.berth 7).state ≠ .closed ∧
     Hands s 0x18 (le 2 7) ∧ Hands s 0x19 (le 2 7)) ∧
    (let s := base.setBerth 239 { Berth.fullClear with state := .closed }
     Hands s 0x18 (le 2 239) ∧ rd (le 2 239) 0 2 = 239 ∧ (s.berth 239).state = .closed) ∧
    (Hands base 0x19 (le 2 239) ∧ (base.berth 239).state = .free) :=
  ⟨⟨writing, by decide +kernel⟩, ⟨writing, by decide +kernel⟩, ⟨writing, by decide +kernel⟩,
    ⟨writing, by decide +kernel, by decide +kernel, handed, handed⟩, ⟨handed, by decide +kernel⟩, ⟨handed, by decide +kernel⟩⟩

/-- A stay that holds berth 7, one that occupies it, and one on the arrivals list. -/
def heldHarbour : State :=
  (harbour.setBerth 7 { fitBerth with state := .held, currentStay := some 5 }).setStay 5 { heldStay with lapseMet := true }
def occupied : State :=
  (harbour.setBerth 7 { fitBerth with state := .occupied, currentStay := some 5 }).setStay 5
    { arrivedStay with overstayMet := true }
def waiting : State := harbour.setArrivals [5]

/-- Dispenser 3 with an authorised sale of account 511 and its hold. -/
def saleV : Sale :=
  { account := 511, credential := none, price := 1500, preset := 5000, hold := 750, highest := 4000, staff := false,
    overrun := false, stopped := false, estimated := false, clamped := false, authTime := 0 }
def saleHold : HoldRecord :=
  { account := 511, amount := 750, owner := .dispenser 3, placed := 0, expiry := none, expiryMet := false }
def holding (s : State) (k : HoldSlot) (x : HoldRecord) : State :=
  { s with ledger := { s.ledger with holds := s.ledger.holds.set k (some x) } }
def selling : State :=
  holding ((base.setDispenser 3 { Dispenser.fullClear with state := .authorised, sale := some saleV }).setAccount 511
    { openAccount with heldTotal := 750 }) 3 saleHold

theorem foldl_fixed {α β : Type} (f : α → β → α) (a : α) (x : β) (h : f a x = a) (n : Nat) :
    (List.replicate n x).foldl f a = a := by
  induction n with
  | zero => rfl
  | succ n ih => simp [List.replicate_succ, h, ih]

/-- The part after reset with its clock set. -/
def clocked : State := clockSet base

@[simp] theorem clocked_berth (i : BerthId) : clocked.berth i = Berth.fullClear := by
  simp [clocked, clockSet, base, State.reset, State.berth]
@[simp] theorem clocked_stay (i : StayId) : clocked.stay i = Stay.emptied := by
  simp [clocked, clockSet, base, State.reset, State.stay]
@[simp] theorem clocked_account (i : AccountId) : clocked.account i = Account.fullClear := by
  simp [clocked, clockSet, base, State.reset, State.account]
@[simp] theorem clocked_outlet (i : OutletId) : clocked.outlet i = Outlet.fullClear := by
  simp [clocked, clockSet, base, State.reset, State.outlet]
@[simp] theorem clocked_start (i : PontoonId) : clocked.start i = StartRecord.fullClear := by
  simp [clocked, clockSet, base, State.reset, State.start]
@[simp] theorem clocked_signal (i : Fin 2) : clocked.signal i = Signal.fullClear := by
  simp [clocked, clockSet, base, State.reset, State.signal]
@[simp] theorem clocked_arrivals : clocked.arrivals = [] := rfl
@[simp] theorem clocked_engine : clocked.engine = Engine.fullClear := rfl

theorem witness_EveryStepKeepsBounds :
    clocked.WithinBounds ∧ clocked.LinesFollow ∧ clocked.BalancesBounded ∧ clocked.EngineBounded ∧
    step clocked = .next (tick clocked) := by
  refine ⟨⟨by decide, by decide, by decide, rfl, by intro c e; cases e⟩, ?_, ?_, ⟨by decide, by decide⟩, rfl⟩
  · intro _ i
    simp [Signal.fullClear, Signal.demand]
  · intro a
    simp [Account.fullClear, Config.balanceBound]

theorem witness_EveryStepKeepsRegisterSound : clocked.RegisterSound :=
  { paired := by constructor <;> simp [Berth.fullClear, Stay.emptied]
    listed := by simp [Stay.emptied]
    ordered := by simp [State.ArrivalsOrdered]
    queued := by simp [Engine.fullClear]
    scanned := by simp [Engine.fullClear]
    committed := by
      intro p
      have h : clocked.committedAmps p = 0 := by
        simp only [State.committedAmps, clocked, clockSet, base, State.reset, Vector.toList_replicate]
        exact foldl_fixed _ _ _ (by simp [Berth.fullClear, Berth.taken]) _
      omega }

theorem witness_EveryStepKeepsPowerSound : clocked.PowerSound :=
  { budget := by
      intro p
      have h : clocked.usedAmps p = 0 := by
        simp only [State.usedAmps, clocked, clockSet, base, State.reset, Vector.toList_replicate]
        exact foldl_fixed _ _ _ (by simp [Outlet.fullClear]) _
      omega
    queues := by simp [StartRecord.fullClear]
    apart := by simp [StartRecord.fullClear]
    slots := by simp [StartRecord.fullClear, Outlet.fullClear]
    starting := by simp [Outlet.fullClear]
    upgrades := by simp [StartRecord.fullClear]
    granted := by simp [Outlet.fullClear]
    timers := by simp [Outlet.fullClear] }

theorem witness_EveryStepKeepsSalesSound : clocked.SalesSound :=
  { sale := by decide +kernel
    slot := by decide +kernel
    owned := by
      intro d x h
      simp [clocked, clockSet, base, State.reset, State.holdSlot] at h
    credit := by simp [Account.available, Account.fullClear]
    held := by
      intro a
      have h : clocked.ledger.holds.toList = List.replicate 16 none := by simp [clocked, clockSet, base, State.reset]
      simp [h, Account.fullClear]
    journal := by decide +kernel }

theorem witness_CreateStayFillsLowestSlot :
    let w := (wr .stay harbour 5).drop 2
    let s := base.setAccount 0 openAccount
    let full : State := { s with register := { s.register with stays := Vector.replicate 256 expectedStay } }
    Hands s 0x10 w ∧ checkStay (rdStay w) = some stayV ∧
    ((s.account stayV.account).state ≠ .closed ∧ (s.stay 0).state = .empty ∧ s.ArrivalsOrdered) ∧
    (Hands base 0x10 w ∧ (base.account stayV.account).state = .closed) ∧
    (Hands full 0x10 w ∧ ∀ y, (full.stay y).state ≠ .empty) ∧
    (Hands s 0x10 (List.replicate 27 0) ∧ checkStay (rdStay (List.replicate 27 0)) = none) :=
  ⟨handed, by decide +kernel, ⟨by decide +kernel, by decide +kernel, List.Pairwise.nil⟩, ⟨handed, by decide +kernel⟩,
    ⟨handed, by decide +kernel⟩, ⟨handed, by decide +kernel⟩⟩

theorem witness_StayWriteReplacesSettings :
    (let w := wr .stay (waiting.setStay 5 { expectedStay with settings := { stayV with arrival := 90 } }) 5
     let s := waiting.setAccount 0 openAccount
     Writing s .stay w 5 ∧ (s.stay 5).state = .expected ∧ checkStay (rdStay (w.drop 2)) = some { stayV with arrival := 90 } ∧
     (s.account 0).state ≠ .closed ∧ writeConditions s 5 { stayV with arrival := 90 } = none ∧ 5 ∈ s.arrivals) ∧
    (let w := wr .stay (waiting.setStay 5 { expectedStay with settings := { stayV with loa := 121 } }) 5
     let s := occupied.setAccount 0 openAccount
     Writing s .stay w 5 ∧ (s.stay 5).state = .arrived ∧ checkStay (rdStay (w.drop 2)) = some { stayV with loa := 121 } ∧
     (s.account 0).state ≠ .closed ∧ writeConditions s 5 { stayV with loa := 121 } = some 2) ∧
    (Writing harbour .stay (wr .stay harbour 5) 5 ∧ (harbour.stay 5).state = .expected ∧
      (harbour.account stayV.account).state = .closed) ∧
    (Writing base .stay (wr .stay base 5) 5 ∧ (base.stay 5).state ≠ .expected ∧ (base.stay 5).state ≠ .arrived) :=
  ⟨⟨writing, by decide +kernel⟩, ⟨writing, by decide +kernel⟩, ⟨writing, by decide +kernel⟩, ⟨writing, by decide +kernel⟩⟩

theorem witness_ExtendWritesDeparture :
    let s := clockSet occupied
    let p := fun (y d : Nat) => le 2 y ++ le 4 d
    (Hands s 0x15 (p 256 151) ∧ 256 ≤ rd (p 256 151) 0 2) ∧
    (Hands s 0x15 (p 5 151) ∧ rd (p 5 151) 0 2 = 5 ∧ rd (p 5 151) 2 4 = 151 ∧ (s.stay 5).state = .arrived ∧
      (s.stay 5).settings.arrival < 151 ∧ s.clock.isSet = true ∧ s.clock.value < 151) ∧
    (Hands s 0x15 (p 5 150) ∧ 150 ≤ s.clock.value ∧ (s.stay 5).overstayNoted = false ∧ s.trunk.notices.length < 64) ∧
    (let n := s.setStay 5 { arrivedStay with overstayNoted := true }
     Hands n 0x15 (p 5 150) ∧ (n.stay 5).overstayNoted = true) ∧
    (Hands harbour 0x15 (p 5 101) ∧ (harbour.stay 5).state = .expected ∧ (harbour.stay 5).settings.arrival < 101) ∧
    (Hands occupied 0x15 (p 5 101) ∧ occupied.clock.isSet = false) ∧
    (Hands harbour 0x15 (p 5 100) ∧ 100 ≤ (harbour.stay 5).settings.arrival) ∧
    (Hands base 0x15 (p 0 151) ∧ (base.stay 0).state ≠ .expected ∧ (base.stay 0).state ≠ .arrived) :=
  ⟨⟨handed, by decide +kernel⟩, ⟨handed, by decide +kernel⟩, ⟨handed, by decide +kernel⟩, ⟨handed, by decide +kernel⟩,
    ⟨handed, by decide +kernel⟩, ⟨handed, by decide +kernel⟩, ⟨handed, by decide +kernel⟩, ⟨handed, by decide +kernel⟩⟩

/-- The payload of two ids, and the condition of R12 that fails first for a stay's values on a berth. -/
def ids (a b : Nat) : List Byte := le 2 a ++ le 2 b
def failing (s : State) (y : StayId) (b : BerthId) (own : Nat) : Option Nat :=
  firstFailing (eligibility s (s.stay y).settings.fit b own)

theorem witness_AssignHoldsAnEligibleBerth :
    (Hands harbour 0x11 (ids 5 7) ∧ rd (ids 5 7) 0 2 = 5 ∧ rd (ids 5 7) 2 2 = 7 ∧ (harbour.stay 5).state = .expected ∧
      (harbour.stay 5).berth = none ∧ failing harbour 5 7 0 = none) ∧
    (Hands harbour 0x11 (ids 5 239) ∧ failing harbour 5 239 0 = some 2) ∧
    (Hands heldHarbour 0x11 (ids 5 7) ∧ (heldHarbour.stay 5).berth.isSome = true) ∧
    (Hands base 0x11 (ids 0 0) ∧ (base.stay 0).state ≠ .expected) :=
  ⟨⟨handed, by decide +kernel⟩, ⟨handed, by decide +kernel⟩, ⟨handed, by decide +kernel⟩, ⟨handed, by decide +kernel⟩⟩

/-- Stay 5 holds berth 7 of a pontoon that its class alone fills; berth 8 lies beside it, berth 9 on another pontoon. -/
def crowdedPontoon : State :=
  ((heldHarbour.setPontoon 0 { pontoonV with commitLimit := 16 }).setBerth 8 fitBerth).setBerth 9 { fitBerth with pontoon := 1 }

theorem witness_EligibilityIsTheSevenConditions :
    let s := crowdedPontoon
    (s.stay 5).berth = some 7 ∧ s.ownClassOn 5 8 = 16 ∧ s.ownClassOn 5 9 = 0 ∧ failing s 5 8 0 = some 7 ∧
    failing s 5 8 16 = none ∧ writeConditions s 5 stayV = none ∧ writeConditions s 5 { stayV with power := .a32 } = some 6 ∧
    (base.stay 5).berth = none ∧ writeConditions base 5 stayV = none := by decide +kernel

theorem witness_UnassignCancelAndLapse :
    (Hands heldHarbour 0x12 (le 2 5) ∧ Hands heldHarbour 0x13 (le 2 5) ∧ rd (le 2 5) 0 2 = 5 ∧
      (heldHarbour.stay 5).state = .expected ∧ (heldHarbour.stay 5).berth = some 7 ∧
      heldHarbour.part.condition = .running ∧ (heldHarbour.stay 5).lapseMet = true ∧ heldHarbour.trunk.notices.length < 62) ∧
    heldHarbour.ArrivalsOrdered ∧
    (Hands waiting 0x12 (le 2 5) ∧ Hands waiting 0x13 (le 2 5) ∧ (waiting.stay 5).state = .expected ∧
      (waiting.stay 5).berth = none) :=
  ⟨⟨handed, handed, by decide +kernel⟩, List.Pairwise.nil, ⟨handed, handed, by decide +kernel⟩⟩

theorem witness_ArriveAndOverstay :
    (Hands heldHarbour 0x14 (le 2 5) ∧ (heldHarbour.stay 5).state = .expected ∧ (heldHarbour.stay 5).berth = some 7) ∧
    (Hands harbour 0x14 (le 2 5) ∧ (harbour.stay 5).state = .expected ∧ (harbour.stay 5).berth = none) ∧
    (Hands base 0x14 (le 2 0) ∧ (base.stay 0).state ≠ .expected) ∧
    (occupied.part.condition = .running ∧ (occupied.stay 5).state = .arrived ∧ (occupied.stay 5).overstayMet = true ∧
      (occupied.stay 5).overstayNoted = false) :=
  ⟨⟨handed, by decide +kernel⟩, ⟨handed, by decide +kernel⟩, ⟨handed, by decide +kernel⟩, by decide +kernel⟩

theorem witness_ArriveAndOverstay_writes :
    (Hands occupied 0x15 (le 2 5 ++ le 4 101) ∧ (occupied.stay 5).state = .arrived ∧ occupied.clock.isSet = false ∧
      (occupied.stay 5).settings.arrival < 101) ∧
    (∀ v ∈ [none, some 199, some 200],
      let s := occupied.setAccount 0 openAccount
      let s : State := match v with
        | some n => { s with clock := { s.clock with value := n, isSet := true } }
        | none => s
      let w := wr .stay occupied 5
      lengthFits 5 (3 :: w) = true ∧ checkStay (rdStay (w.drop 2)) = some stayV ∧ (s.account 0).state ≠ .closed ∧
      writeConditions s 5 stayV = none ∧ (s.stay 5).state = .arrived ∧
      s.clock.isSet = v.isSome ∧ s.trunk.notices.length < 64) :=
  ⟨⟨handed, by decide +kernel⟩, by decide +kernel⟩

/-- The occupied berth with its outlet ON, and a second berth to move to. -/
def powered : State :=
  occupied.setOutlet 3 { Outlet.fullClear with berth := some 7, state := .on, plugTaken := true, granted := 16,
                                               grantPontoon := some 0, billing := some 0 }
def twoBerths : State := powered.setBerth 8 { fitBerth with outlets := [4] }

theorem witness_DepartClearsTheBerth :
    (Hands occupied 0x16 (le 2 5) ∧ (occupied.stay 5).state = .arrived ∧ (occupied.stay 5).berth = some 7 ∧
      occupied.outletsToRead 7 = [] ∧ occupied.tapToRead 7 = none) ∧
    (Hands powered 0x16 (le 2 5) ∧ (powered.stay 5).berth = some 7 ∧ powered.outletsToRead 7 = [3] ∧
      3 ∈ (powered.berth 7).outlets ∧ (powered.outlet 3).state.energised = true ∧ (powered.outlet 3).state ≠ .closing) ∧
    (Hands base 0x16 (le 2 0) ∧ (base.stay 0).state ≠ .arrived) :=
  ⟨⟨handed, by decide +kernel⟩, ⟨handed, by decide +kernel⟩, ⟨handed, by decide +kernel⟩⟩

/-- A berth that clears, with two items outstanding or with the last. -/
def clearing (l : List ReadItem) : State :=
  ((base.setBerth 7 { fitBerth with
    state := .clearing, departingStay := some 5, outstanding := l.map (fun i => { item := i, endAt := 60000 }) }).setOutlet 3
    { Outlet.fullClear with berth := some 7, state := .closing }).setStay 5 { heldStay with state := .departing }

theorem witness_MoveAndFinalReadTimeout :
    (Hands twoBerths 0x17 (ids 5 8) ∧ rd (ids 5 8) 0 2 = 5 ∧ rd (ids 5 8) 2 2 = 8 ∧ (twoBerths.stay 5).state = .arrived ∧
      (twoBerths.stay 5).berth = some 7 ∧ failing twoBerths 5 8 (twoBerths.ownClassOn 5 8) = none) ∧
    (Hands twoBerths 0x17 (ids 5 9) ∧ failing twoBerths 5 9 (twoBerths.ownClassOn 5 9) = some 2) ∧
    (∀ i ∈ [ReadItem.outlet 3, .tap 2], ∀ l ∈ [[ReadItem.outlet 3, .tap 2], [i]],
      let s := clearing l
      s.part.condition = .running ∧ (s.berth 7).state = .clearing ∧ (s.outlet 3).berth = some 7 ∧
      (∃ r ∈ (s.berth 7).outstanding, r.item = i) ∧
      (∀ r ∈ (s.berth 7).outstanding, r.item = i → r.endAt = 60000) ∧ (s.berth 7).departingStay = some 5 ∧
      ((∀ r ∈ (s.berth 7).outstanding, r.item = i) ∨ ∃ r ∈ (s.berth 7).outstanding, r.item ≠ i) ∧
      s.trunk.notices.length < 63) :=
  ⟨⟨handed, by decide +kernel⟩, ⟨handed, by decide +kernel⟩, by decide +kernel⟩

/-- An engine with four entries, the first of them stay 5, idle or at the end of its walk. -/
def fullQueue : Engine :=
  { Engine.fullClear with queue := [{ stay := 5, source := .office }, { stay := 6, source := .lead },
                                    { stay := 7, source := .lead }, { stay := 8, source := .resubmit }] }
def atEnd (attempt : Nat) (best : Option (BerthId × Nat)) : State :=
  waiting.setEngine { fullQueue with scan := some { attempt := attempt, position := 239, walked := true,
                                                    captured := stayV.fit, best := best, freeSeen := 1 } }

theorem witness_AllocateQueuesAWaitingStay :
    (Hands base 0x1A (le 2 256) ∧ 256 ≤ rd (le 2 256) 0 2) ∧
    (Hands base 0x1A (le 2 255) ∧ rd (le 2 255) 0 2 = 255 ∧ (255 : StayId) ∉ base.arrivals) ∧
    (let s := waiting.setEngine fullQueue
     Hands s 0x1A (le 2 5) ∧ 5 ∈ s.arrivals ∧ s.fitQueued 5 = true) ∧
    (let s := (waiting.setEngine fullQueue).setArrivals [9]
     Hands s 0x1A (le 2 9) ∧ 9 ∈ s.arrivals ∧ s.fitQueued 9 = false ∧ 4 ≤ s.engine.queue.length) ∧
    (Hands waiting 0x1A (le 2 5) ∧ 5 ∈ waiting.arrivals ∧ waiting.fitQueued 5 = false ∧ waiting.engine.queue = [] ∧
      waiting.engine.scan = none) :=
  ⟨⟨handed, by decide +kernel⟩, ⟨handed, by decide +kernel⟩, ⟨handed, by decide +kernel⟩, ⟨handed, by decide +kernel⟩,
    ⟨handed, by decide +kernel⟩⟩

theorem witness_LeadSubmissionAndResubmission :
    (let s := clockSet waiting
     s.part.condition = .running ∧ s.engine.queue.length < 4 ∧ s.engine.resubmit = 0 ∧
     (s.arrivals.filter s.leadDue).filter (fun z => !s.fitQueued z) = [5]) ∧
    (let s := clockSet (waiting.setEngine fullQueue)
     4 ≤ s.engine.queue.length ∧ s.leadDue 5 = true ∧ s.fitQueued 5 = true) ∧
    (∀ l ∈ [12, 13],
      let s := clockSet (waiting.setStay 5 { expectedStay with
        settings := { stayV with arrival := 90000, departure := 99999 }, leadMet := some l })
      ¬ (s.stay 5).settings.arrival ≤ s.clock.value + s.settings.lead * 3600 ∧ s.settings.lead = 12 ∧ 5 ∈ s.arrivals ∧
      s.engine.leadMarks[(5 : StayId)] = false ∧ (s.stay 5).lapseMet = false) ∧
    (let s := clockSet (waiting.setEngine { Engine.fullClear with resubmit := 1 })
     s.engine.resubmit > 0 ∧ s.leadDue 5 = true) ∧
    (let s := ((waiting.setStay 5 { expectedStay with unplaced := true }).setArrivals [4, 5]).setEngine
       { Engine.fullClear with resubmit := 1 }
     s.engine.queue.length < 4 ∧ s.engine.resubmit > 0 ∧ s.arrivals = [4] ++ 5 :: [] ∧ (s.stay 4).unplaced = false ∧
     (s.stay 5).unplaced = true ∧ s.fitQueued 5 = false) ∧
    (let s := waiting.setEngine { Engine.fullClear with resubmit := 240 }
     s.engine.queue.length < 4 ∧ s.engine.resubmit > 0 ∧ ∀ y ∈ s.arrivals, (s.stay y).unplaced = false) := by
  decide +kernel

/-- A scan at a berth with a best so far. -/
def scanning (b : BerthId) (best : Option (BerthId × Nat)) : Scan :=
  { attempt := 1, position := b, walked := false, captured := stayV.fit, best := best, freeSeen := 0 }

theorem witness_ScanStepsAndCompletion :
    (∀ x ∈ [scanning 7 none, scanning 7 (some (3, 1)), scanning 7 (some (3, 1000))],
      (harbour.setEngine { Engine.fullClear with scan := some x }).engine.scan = some x ∧ x.walked = false ∧
      firstFailing (eligibility harbour x.captured x.position 0) = none) ∧
    firstFailing (eligibility harbour stayV.fit (scanning 239 none).position 0) = some 2 ∧
    ((atEnd 1 none).engine.queue ≠ [] ∧ (atEnd 1 none).trunk.notices.length < 64) ∧
    failing (atEnd 1 (some (7, 40))) 5 7 0 = none ∧ failing (atEnd 1 (some (8, 40))) 5 8 0 = some 2 ∧
    failing (atEnd 2 (some (8, 40))) 5 8 0 = some 2 := by decide +kernel

/-! ### Witnesses: accounts, holds and the nightly pass -/

/-- Account 511 open, and an office hold on it whose expiry is met. -/
def oneOpen : State := base.setAccount 511 openAccount
def officeHold : HoldRecord :=
  { account := 511, amount := 100, owner := .office, placed := 0, expiry := some 150, expiryMet := true }
def oneHold : State := holding oneOpen 15 officeHold

theorem witness_OpenAndWriteAccount :
    let w := wr .account (base.setAccount 511 { Account.fullClear with kind := .credit, creditLimit := 500 }) 511
    (checkAccount (rdAccount (w.drop 2))).isSome = true ∧
    (Hands base 0x20 w ∧ rd w 0 2 = 511 ∧ (base.account 511).state = .closed ∧ (base.account 511).balance = 0) ∧
    (Hands oneOpen 0x20 w ∧ Writing oneOpen .account w 511 ∧ (oneOpen.account 511).state ≠ .closed) ∧
    (Writing base .account w 511 ∧ (base.account 511).state = .closed) :=
  ⟨by decide +kernel, ⟨handed, by decide +kernel⟩, ⟨handed, writing, by decide +kernel⟩, ⟨writing, by decide +kernel⟩⟩

theorem witness_SuspendResumeAndCloseAccount :
    let w := le 2 511
    let s := oneOpen.setOutlet 3 { Outlet.fullClear with state := .on, billing := some 511 }
    let u := base.setAccount 511 { openAccount with state := .suspended, exhausted := true }
    rd w 0 2 = 511 ∧
    (Hands s 0x21 w ∧ Hands s 0x23 w ∧ (s.account 511).state = .open ∧ s.accountNamed 511 = true ∧
      (s.account 511).exhausted = false ∧ s.settings.graceTime ≠ 0 ∧ (s.outlet 3).state = .on ∧
      (s.outlet 3).billing = some 511) ∧
    (Hands u 0x21 w ∧ Hands u 0x22 w ∧ Hands u 0x23 w ∧ (u.account 511).state = .suspended ∧
      (u.account 511).exhausted = true ∧ u.accountNamed 511 = false) ∧
    (Hands base 0x22 w ∧ Hands base 0x23 w ∧ (base.account 511).state = .closed) :=
  ⟨by decide +kernel, ⟨handed, handed, by decide +kernel⟩, ⟨handed, handed, handed, by decide +kernel⟩,
    ⟨handed, handed, by decide +kernel⟩⟩

/-- The payload of an id and an amount. -/
def amount (a n : Nat) : List Byte := le 2 a ++ le 4 n

theorem witness_CreditAndDebitWithinTheBounds :
    (Hands oneOpen 0x24 (amount 511 99999999) ∧ Hands oneOpen 0x25 (amount 511 99999999) ∧
      rd (amount 511 99999999) 0 2 = 511 ∧ rd (amount 511 99999999) 2 4 = 99999999) ∧
    (Hands oneOpen 0x24 (amount 511 100000000) ∧ Hands oneOpen 0x25 (amount 511 100000000) ∧
      rd (amount 511 100000000) 2 4 = 100000000) ∧
    Hands oneOpen 0x26 (le 2 511) :=
  ⟨⟨handed, handed, by decide +kernel⟩, ⟨handed, handed, by decide +kernel⟩, handed⟩

theorem witness_OfficeHolds :
    (let w := amount 511 1000 ++ [1] ++ le 4 151
     let s := clockSet oneOpen
     Hands s 0x27 w ∧ rd w 0 2 = 511 ∧ rd w 2 4 = 1000 ∧ rdPresent w 6 4 = some (some 151) ∧ s.clock.isSet = true ∧
     s.clock.value < 151 ∧ (s.account 511).state = .open ∧ ((1000 : Nat) : Int) ≤ (s.account 511).available ∧
     (s.account 511).heldTotal + 1000 ≤ 99999999 ∧ s.holdSlot 4 = none) ∧
    (let w := amount 511 1001 ++ List.replicate 5 0
     Hands oneOpen 0x27 w ∧ rdPresent w 6 4 = some none ∧ (oneOpen.account 511).available < ((1001 : Nat) : Int)) ∧
    (let w := amount 511 1 ++ [2, 0, 0, 0, 0]
     Hands oneOpen 0x27 w ∧ 1 < rd w 6 1) ∧
    (Hands oneHold 0x28 (le 2 15) ∧ rd (le 2 15) 0 2 = 15 ∧ oneHold.holdSlot 15 = some officeHold ∧
      oneHold.part.condition = .running ∧ officeHold.expiryMet = true ∧ oneHold.trunk.notices.length < 62) ∧
    (Hands base 0x28 (le 2 3) ∧ Hands base 0x28 (le 2 4) ∧ base.holdSlot 4 = none) :=
  ⟨⟨handed, by decide +kernel⟩, ⟨handed, by decide +kernel⟩, ⟨handed, by decide +kernel⟩, ⟨handed, by decide +kernel⟩,
    ⟨handed, handed, by decide +kernel⟩⟩

/-- A rollover day behind the clock, and a pass at a position. -/
def lateDay (r : Int) : State :=
  { base with clock := { base.clock with value := 43200 + 86400 * 3, isSet := true }
              ledger := { base.ledger with rolloverDay := some r } }
def passAt (y : StayId) (walked : Bool) (s : State) : State :=
  { s with ledger := { s.ledger with pass := some { day := 3, position := y, walked := walked, charged := 1, total := 20 } } }

theorem witness_NightlyPassChargesArrivedStays :
    (∀ r ∈ [(1 : Int), 2], (lateDay r).part.condition = .running ∧ (lateDay r).currentDay = some 3 ∧
      (lateDay r).ledger.rolloverDay = some r ∧ (lateDay r).ledger.pass = none ∧
      ∀ k : HoldSlot, (lateDay r).holdSlot k = none) ∧
    (∀ y ∈ [(0 : StayId), 255], let s := passAt y false (base.setStay y arrivedStay)
      (s.stay y).state = .arrived ∧ (s.stay y).lastNight ≠ some 3 ∧ (s.stay y).settings.loa ≠ 0 ∧
      s.ledger.pass.map (fun p => (p.position, p.walked, p.day)) = some (y, false, 3)) ∧
    ((passAt 0 false base).stay 0).state ≠ .arrived ∧
    (passAt 255 true base).ledger.pass.map (·.walked) = some true := by decide +kernel

/-! ### Witnesses: branch ports, polls and relays -/

/-- Station 9 at address 5 of branch 2, ONLINE, of a kind; its branch runs. -/
def member (k : StationKind) : Station :=
  { Station.fullClear with kind := k, branch := 2, address := 5, enabled := true, state := .online, outletCount := some 1,
                           tapCount := some 1, pontoon := some 4 }
def line : Branch := { Branch.fullClear with rateCode := 3, activeRate := 3, ringPosition := some 5 }
def online (k : StationKind) : State := (base.setStation 9 (member k)).setBranch 2 line
def relayE : RelayEntry := { station := 9, code := 0x10, payload := [1, 2], tag := 7 }

/-- The exchange with station 9. -/
def asking (k : ExchangeKind) : Exchange :=
  { station := 9, kind := k, sent := [], timeoutAt := 10, replyBegun := false, discard := false }
def polled (k : StationKind) (x : ExchangeKind) (miss : Nat) : State :=
  ((online k).setStation 9 { member k with miss := miss }).setBranch 2
    { line with exchange := some (asking x), relays := [relayE] }

/-- A second member at address 6 of branch 2, and the port with both, the first of them OFFLINE. -/
def twoMembers (skip : Nat) (second : StationState) (b : Branch) : State :=
  (((online .post).setStation 9 { member .post with state := .offline, skip := skip }).setStation 10
    { member .post with address := 6, state := second }).setBranch 2 b

theorem witness_PortChoosesItsSlot :
    ((base.setBranch 5 { line with idleUntil := some 50 }).branch 5).idleUntil = some 50 ∧
    (let s := twoMembers 0 .online { line with attention := [9, 10], slotCount := 1 }
     (s.branch 2).activeRate ≠ 0 ∧ (s.branch 2).exchange = none ∧ (s.branch 2).idleUntil = none ∧ s.trunk.mode = .run ∧
     (s.branch 2).ratio ≤ (s.branch 2).slotCount ∧ (s.branch 2).attention = [9] ++ 10 :: [] ∧
     (s.station 9).state = .offline ∧ (s.station 10).state ≠ .offline) ∧
    (let s := online .post
     (s.branch 2).slotCount < (s.branch 2).ratio ∧ (s.branch 2).relays = [] ∧ (s.branch 2).ringPosition = some 5 ∧
     (s.ring 2).find? (fun m => decide (m.1 = 5)) = some (5, 9) ∧ (s.station 9).state ≠ .offline) ∧
    (let s := twoMembers 7 .online line
     (s.ring 2).find? (fun m => decide (m.1 = 5)) = some (5, 9) ∧ (s.station 9).state = .offline ∧
     8 ≤ (s.station 9).skip + 1) ∧
    (let s := twoMembers 0 .online line
     (s.station 9).skip + 1 < 8 ∧ ((s.ring 2).find? (fun m => decide (5 < m.1))).or (s.ring 2).head? = some (6, 10) ∧
     (s.station 10).state ≠ .offline) ∧
    (let s := twoMembers 0 .offline { line with ringPosition := some 6 }
     (s.ring 2).find? (fun m => decide (m.1 = 6)) = some (6, 10) ∧ (s.station 10).state = .offline ∧
     (s.station 10).skip + 1 < 8 ∧ (∀ m ∈ s.ring 2, m.1 ≤ 6) ∧ (s.branch 2).passServed = false) ∧
    (let s := twoMembers 0 .online { line with relays := [relayE, { relayE with station := 10 }] }
     (s.branch 2).relays = [relayE] ++ { relayE with station := 10 } :: [] ∧ (s.station 9).state = .offline ∧
     (s.station 10).state = .online ∧ (s.branch 2).relayMark = false ∧ (s.branch 2).slotCount < (s.branch 2).ratio ∧
     s.trunk.notices.length + 1 ≤ 64) ∧
    (let s := (setupMode.setBranch 2 { line with relays := [relayE] }).setStation 9 (member .post)
     s.trunk.mode = .setup ∧ (s.branch 2).relays = [relayE] ∧ (s.station 9).state = .online) ∧
    (let s := setupMode.setBranch 2 line
     s.trunk.mode = .setup ∧ (s.branch 2).activeRate ≠ 0 ∧ (s.branch 2).exchange = none ∧
     (s.branch 2).idleUntil = none ∧ (s.branch 2).relays = []) := by decide +kernel

theorem witness_ExchangeEndsWithoutAReport :
    (∀ m ∈ [0, 2], let s := polled .post .poll m
      s.part.condition = .running ∧ (s.branch 2).exchange = some (asking .poll) ∧ (s.station 9).leaving = none ∧
      (s.branch 2).activeRate = (s.branch 2).rateCode ∧ (s.station 9).state ≠ .offline ∧
      (s.station 9).goodReport [] = none ∧ s.trunk.notices.length < 64) ∧
    min 7 (((polled .post .poll 0).station 9).miss + 1) < ((polled .post .poll 0).branch 2).missLimit ∧
    ((polled .post .poll 2).branch 2).missLimit ≤ min 7 (((polled .post .poll 2).station 9).miss + 1) ∧
    (let s := polled .post .relay 0
     (s.branch 2).exchange = some (asking .relay) ∧ (s.branch 2).relays = [relayE] ∧
     replyParts (s.station 9).address kindRelayAnswer [] = none ∧
     replyParts (s.station 9).address kindRelayAnswer (relayAnswerTelegram 5 255 [1, 2]) = some (255, [1, 2])) := by
  decide +kernel

/-- The exchange in flight with station 9, whose disabling waits on it. -/
def departing (k : ExchangeKind) : State :=
  ((polled .post k 0).setStation 9 { member .post with enabled := false, leaving := some (2, 5) }).setBranch 2
    { line with exchange := some { asking k with discard := true }, attention := [9, 10] }

theorem witness_ExchangeEndsWithoutAReport_disabling :
    ∀ k ∈ [ExchangeKind.poll, .relay], let s := departing k
      s.part.condition = .running ∧ (s.branch 2).exchange = some { asking k with discard := true } ∧
      (s.branch 2).activeRate = (s.branch 2).rateCode ∧ (s.station 9).leaving = some (2, 5) ∧
      (asking k).replyBegun = false := by decide +kernel

def calm : EventByte := { number := 3, event := false, started := false }
def outE (energy : Counter) : OutletEntry :=
  { plug := true, energised := true, leakage := false, overcurrent := false, current := 255, energy := energy }
def tapE : TapEntry := { valveOpen := false, flowing := false, flow := 6 }

/-- Station 9 as a post of one outlet, which is ON, with and without a tap. -/
def metered (taps : Nat) : State :=
  (((polled .post .poll 0).setStation 9 { member .post with tapCount := some taps }).setOutlet 191
    { Outlet.fullClear with post := some 9, state := .on, baseline := some 10, billing := some 511 }).setTap 127
    { Tap.fullClear with post := some 9 }

/-- The states in which an outlet without a taken plug may stand when one is taken, with their targets. -/
def plugStates : List (OutletState × Option CloseTarget) :=
  [(.vacant, none), (.tripped, none), (.locked, none), (.closing, some .vacant), (.closing, some .locked)]

/-- The post of one outlet at berth 7, which a stay holds: a second report of the plug is taken as an insertion. -/
def plugging (x : OutletState × Option CloseTarget) : State :=
  (((metered 0).setOutlet 191
      { Outlet.fullClear with post := some 9, berth := some 7, state := x.1, target := x.2, deglitch := 1 }).setBerth 7
    { fitBerth with state := .held, currentStay := some 5, outlets := [191] }).setStay 5 heldStay

/-- The post in a state, named by dispenser 3, whose settle timer runs, and by gate 11, whose door is open. -/
def misnamed (x : StationState) : State :=
  (((metered 0).setStation 9 { member .post with tapCount := some 0, state := x }).setDispenser 3
    { Dispenser.fullClear with station := some 9, state := .settling, sale := some saleV, settleTimer := some 60 }).setGate 11
    { Gate.fullClear with reader := some 9, door := .open, heldTimer := some 5 }

theorem witness_PostReportReadsTheMeters :
    ((metered 1).station 9).goodReport (reportTelegram 5 calm (.post [outE 5010] [tapE] none)) =
      some (calm, .post [outE 5010] [tapE] none) ∧
    (metered 1).outletAt 9 0 = some 191 ∧ (metered 1).tapAt 9 0 = some 127 ∧
    (let s := metered 0
     s.part.condition = .running ∧ (s.branch 2).exchange = some (asking .poll) ∧ (s.station 9).leaving = none ∧
     (s.branch 2).activeRate = (s.branch 2).rateCode ∧
     (s.station 9).goodReport (reportTelegram 5 calm (.post [outE 5010] [] none)) = some (calm, .post [outE 5010] [] none) ∧
     s.outletAt 9 0 = some 191 ∧ (s.outlet 191).state = .on ∧ (s.outlet 191).baseline = some 10 ∧
     (s.outlet 191).billing = some 511 ∧ ((outE 5010).energy - 10).toNat = 5000) ∧
    (∀ x ∈ plugStates, let s := plugging x
      s.part.condition = .running ∧ (s.branch 2).exchange = some (asking .poll) ∧ (s.station 9).leaving = none ∧
      (s.branch 2).activeRate = (s.branch 2).rateCode ∧
      (s.station 9).goodReport (reportTelegram 5 calm (.post [outE 5010] [] none)) = some (calm, .post [outE 5010] [] none) ∧
      s.outletAt 9 0 = some 191 ∧ (outE 5010).plug = true ∧ (s.outlet 191).state = x.1 ∧ (s.outlet 191).plugTaken = false ∧
      s.settings.deglitch = (s.outlet 191).deglitch + 1 ∧ (s.outlet 191).berth = some 7 ∧ (s.berth 7).state = .held ∧
      (s.berth 7).currentStay = some 5 ∧ (s.stay 5).state = .expected ∧ (s.stay 5).berth = some 7 ∧
      (s.stay 5).settings.autoArrive = true ∧ s.trunk.notices.length < 48) ∧
    (let s := misnamed .offline
     (s.station 9).goodReport (reportTelegram 5 calm (.post [outE 5010] [] none)) = some (calm, .post [outE 5010] [] none) ∧
     (s.dispenser 3).station = some 9 ∧ (s.gate 11).reader = some 9 ∧ (s.station 9).state ≠ .online) ∧
    ((misnamed .online).dispenser 3).station = some 9 ∧ ((misnamed .online).station 9).state = .online := by decide +kernel

/-- Whether a report of station 9 is good, and is awaited and judged. -/
def hears (s : State) (ev : EventByte) (r : Report) : Bool :=
  decide (s.part.condition = .running) && decide ((s.branch 2).exchange = some (asking .poll)) &&
  decide ((s.station 9).leaving = none) && decide ((s.branch 2).activeRate = (s.branch 2).rateCode) &&
  decide ((s.station 9).goodReport (reportTelegram 5 ev r) = some (ev, r))

theorem pollAnswered {s : State} {ev : EventByte} {r : Report} (f : hears s ev r = true := by decide +kernel) :
    s.Polled 2 9 (reportTelegram 5 ev r) ev r := by
  simp only [hears, Bool.and_eq_true, decide_eq_true_eq] at f
  exact { running := f.1.1.1.1, awaited := ⟨_, f.1.1.1.2, rfl, rfl, rfl⟩, staying := f.1.1.2, rate := f.1.2, good := f.2 }

/-- An event byte with EVENT set, number 3, and STARTED or not. -/
def numbered (started : Bool) : EventByte := { number := 3, event := true, started := started }

/-- Station 9 as a reader, of gate 11 or of none, that has last sent event `last`. -/
def readerSent (gate : Option PontoonId) (last : Option (Fin 16)) : State :=
  let s := (polled .gateReader .poll 0).setStation 9 { member .gateReader with lastTaken := last }
  match gate with
  | some g => (s.setGate g { Gate.fullClear with reader := some 9, door := .closed }).setPontoon g pontoonV
  | none => s

def pressing : Report := .reader false (some .exitButton)

theorem witness_PostReportReadsTheMeters_events :
    (readerSent none none).Polled 2 9 (reportTelegram 5 (numbered true) pressing) (numbered true) pressing ∧
    (readerSent none (some 1)).Polled 2 9 (reportTelegram 5 (numbered false) pressing) (numbered false) pressing ∧
    (readerSent (some 11) (some 3)).Polled 2 9 (reportTelegram 5 (numbered false) pressing) (numbered false) pressing ∧
    (∀ l ∈ [none, some 1], ((readerSent none l).station 9).startNoted = false ∧ (readerSent none l).gateAt 9 = none ∧
      ((readerSent none l).station 9).state = .online ∧ (readerSent none l).trunk.notices.length < 62) ∧
    (let s := readerSent (some 11) (some 3)
     s.gateAt 9 = some 11 ∧ (s.station 9).state = .online ∧ (s.gate 11).door = .closed ∧
     (s.station 9).lastTaken = some (numbered false).number) :=
  ⟨pollAnswered, pollAnswered, pollAnswered, by decide +kernel, by decide +kernel⟩

/-- The day band from 100 to 200, the same over midnight, and a clock within the first or beyond it. -/
def banded (start stop now : Nat) : State :=
  { base with ledger := { base.ledger with tariff := { base.ledger.tariff with powerDay := 300, powerNight := 200, dayStart := start, dayEnd := stop } }
              clock := { base.clock with value := now, isSet := true } }

theorem witness_PostReportReadsTheMeters_bands :
    base.clock.isSet = false ∧
    ∀ x ∈ [(100, 200, 100), (100, 200, 200), (200, 100, 200), (200, 100, 100), (100, 100, 5)],
      (banded x.1 x.2.1 x.2.2).clock.isSet = true ∧
      (banded x.1 x.2.1 x.2.2).powerPrice = (if x.2.2 = 5 ∨ x.2.2 = x.1 then 300 else 200) := by decide +kernel

/-- Station 9 as a gate reader of gate 11, as dispenser 3 with a sale, and as the monitor of pontoon 4. -/
def readerOf : State :=
  ((polled .gateReader .poll 0).setGate 11 { Gate.fullClear with reader := some 9, door := .closed }).setPontoon 11 pontoonV
def pumping (st : DispenserState) : Dispenser := { Dispenser.fullClear with station := some 9, state := st, sale := some saleV }
def dispenserOf (st : DispenserState) : State := (polled .dispenser .poll 0).setDispenser 3 (pumping st)

/-- A contractor's card that gate 11 admits, before that gate with pending passages, the clock set or not. -/
def worker : Credential :=
  { number := 77, kind := .contractor, stay := none, account := none, pontoons := 0xFFF, validFrom := 0, validTo := 1000,
    state := .active, zone := none, exitExpiry := none, expiryMet := false }
def waitingPassage (d : Direction) : Passage := { credential := none, direction := d, grantTime := 0 }
def atDoor (c : Credential) (pending : Nat) (time : Option Nat) : State :=
  let s := (readerOf.setCredential 1023 (some c)).setGate 11
    { Gate.fullClear with reader := some 9, door := .closed, passages := List.replicate pending (waitingPassage .out) }
  match time with
  | some v => { s with clock := { s.clock with value := v, isSet := true } }
  | none => s

theorem witness_ReaderEvents :
    (∀ e ∈ [ReaderEvent.cardIn 77, .cardOut 77], let button : EventByte := { calm with event := true }
      readerOf.cardSlot 77 = none ∧
      (readerOf.station 9).goodReport (reportTelegram 5 button (.reader false (some e))) =
        some (button, .reader false (some e))) ∧
    (∀ d ∈ [Direction.in, .out],
      let s := readerOf.setGate 11
        { Gate.fullClear with reader := some 9, door := .closed, lock := .unlocked, passages := [waitingPassage d] }
      (s.gate 11).door = .closed ∧ (s.gate 11).lock = .unlocked ∧ (s.gate 11).passages = [waitingPassage d]) ∧
    (∀ n ∈ [3, 4], let s := atDoor worker n none
      s.gateAt 9 = some 11 ∧ (s.gate 11).lock ≠ .released ∧ (s.station 9).lastTaken = none ∧
      (s.gate 11).passages.length = n ∧ s.cardSlot 77 = some 1023 ∧ s.credential 1023 = some worker) ∧
    entryTests (atDoor { worker with state := .exitOnly } 0 none) 11 { worker with state := .exitOnly } = some .expired ∧
    (let s := atDoor worker 0 (some 50)
     entryTests s 11 worker = none ∧ s.curfewNow 11 = 1 ∧ worker.kind ≠ .staff) ∧
    (let s := atDoor worker 4 none
     entryTests s 11 worker = none ∧ s.curfewNow 11 = 0 ∧ roomTests s 11 worker = some .busy) ∧
    (let s := atDoor worker 3 none
     entryTests s 11 worker = none ∧ s.curfewNow 11 = 0 ∧ roomTests s 11 worker = none) := by decide +kernel

theorem witness_ReaderEvents_rooms :
    (let s := atDoor worker 0 none
     s.clock.isSet = false ∧ s.permitted worker 11 = true ∧ worker.state = .active ∧ s.gateAccount worker = none) ∧
    (∀ v ∈ [0, 99, 100], (atDoor worker 0 (some v)).clock.isSet = true ∧
      (atDoor worker 0 (some v)).curfewNow 11 = if v < 100 then 1 else 0) ∧
    (let s := (atDoor worker 0 none).setPontoon 11 { pontoonV with passbackStrict := true }
     roomTests s 11 { worker with zone := some 11 } = some .passback) ∧
    (let s := (atDoor worker 4 none).setPontoon 11 { pontoonV with peopleCapacity := 0 }
     (s.gate 11).unreliable = false ∧ roomTests s 11 worker = some .full ∧
     roomTests s 11 { worker with kind := .staff } = some .busy) := by decide +kernel

/-- A watch of dispenser 3, and pontoon 4 with its monitor, in a state one report short of its limits. -/
def watching : State :=
  (polled .dispenser .poll 0).setDispenser 3
    { Dispenser.fullClear with station := some 9, state := .idle, watch := some { volume := 4000, sale := some 7 } }
def monitoring (st : FeederState) (cause : Option ShedCause) : State :=
  ((polled .feederMonitor .poll 0).setPontoon 4 pontoonV).setFeeder 4
    { Feeder.fullClear with state := st, shedCause := cause, overCount := 1, healthyCount := 1 }

theorem witness_WatchAndFeederReports :
    (∀ v ∈ [4000, 4001], let final : Report := .dispenser false false true v none
      watching.dispenserAt 9 = some 3 ∧ (watching.dispenser 3).state.holdsSale = false ∧
      (watching.dispenser 3).watch = some { volume := 4000, sale := some 7 } ∧
      (watching.station 9).goodReport (reportTelegram 5 calm final) = some (calm, final)) ∧
    (∀ st ∈ [FeederState.normal, .restoring], let s := monitoring st none
      let report : Report := .monitor 207 101 false
      (s.station 9).goodReport (reportTelegram 5 calm report) = some (calm, report) ∧ (s.station 9).pontoon = some 4 ∧
      (s.feeder 4).state = st ∧ (s.pontoon 4).vf ≤ 207 ∧ (s.pontoon 4).capacity < 101 ∧ 1 ≤ s.settings.tripCount ∧
      s.settings.tripCount ≤ min 7 ((s.feeder 4).overCount + 1)) ∧
    (∀ st ∈ [FeederState.shedding, .shed], let s := monitoring st (some .overload)
      let report : Report := .monitor 216 90 false
      (s.station 9).goodReport (reportTelegram 5 calm report) = some (calm, report) ∧ (s.feeder 4).state = st ∧
      (s.feeder 4).shedCause ≠ some .office ∧ (s.pontoon 4).vf ≤ 216 ∧ (s.pontoon 4).vr ≤ 216 ∧
      90 ≤ (s.pontoon 4).capacity - (s.pontoon 4).reserve ∧
      s.settings.tripCount ≤ min 7 ((s.feeder 4).healthyCount + 1)) ∧
    ((monitoring .dead none).feeder 4).state = .dead := by decide +kernel

theorem witness_ReaderDispenserAndMonitorReports :
    (let button : EventByte := { calm with event := true }
     readerOf.gateAt 9 = some 11 ∧ (readerOf.station 9).state = .online ∧ (readerOf.gate 11).door = .closed ∧
     (readerOf.gate 11).lock = .locked ∧ (readerOf.gate 11).passages = [] ∧ (readerOf.station 9).lastTaken = none ∧
     (readerOf.station 9).goodReport (reportTelegram 5 calm (.reader true none)) = some (calm, .reader true none) ∧
     (readerOf.station 9).goodReport (reportTelegram 5 button (.reader false (some .exitButton))) =
       some (button, .reader false (some .exitButton))) ∧
    (let begin : Report := .dispenser true true false 5020 none
     let s := dispenserOf .authorised
     s.dispenserAt 9 = some 3 ∧ (s.dispenser 3).sale = some saleV ∧ (s.dispenser 3).state = .authorised ∧
     (s.station 9).goodReport (reportTelegram 5 calm begin) = some (calm, begin) ∧
     5020 ≤ saleV.preset + (s.dispenser 3).tolerance) ∧
    (let final : Report := .dispenser false false true 5000 none
     let s := dispenserOf .settling
     (s.dispenser 3).state = .settling ∧ (s.station 9).goodReport (reportTelegram 5 calm final) = some (calm, final)) ∧
    (let s := polled .feederMonitor .poll 0
     (s.station 9).pontoon = some 4 ∧ (s.feeder 4).state = .normal ∧ (s.pontoon 4).vf = 207 ∧ s.settings.tripCount = 2 ∧
     (s.station 9).goodReport (reportTelegram 5 calm (.monitor 230 10 true)) = some (calm, .monitor 230 10 true)) ∧
    (let s := (polled .feederMonitor .poll 0).setFeeder 4 { Feeder.fullClear with lowCount := 1 }
     (s.station 9).goodReport (reportTelegram 5 calm (.monitor 206 10 false)) = some (calm, .monitor 206 10 false) ∧
     s.settings.tripCount ≤ min 7 ((s.feeder 4).lowCount + 1) ∧ 206 < (s.pontoon 4).vf ∧ 206 < (s.pontoon 4).vr) := by
  decide +kernel

/-- A command of each class for the post at address 5 of branch 2: query, configuration, actuation and service. -/
def relayW (code : Nat) : List Byte := [2, 5] ++ le 1 code ++ [1, 2]
def modes : State :=
  let s := online .post
  { s with link := { s.link with filter := s.link.filter.map (fun _ =>
      { query := .pass, config := .passNote, actuate := .blockNote, service := .block }) } }
def crowded : State := modes.setBranch 2 { line with relays := List.replicate 4 relayE }

theorem witness_RelayPassesTheFilter :
    (Hands base 6 [6, 1, 0] ∧ Hands base 6 [5, 0, 0] ∧ Hands base 6 [5, 32, 0]) ∧
    (Hands base 6 [5, 31, 0] ∧ base.stationAt 5 31 = none) ∧
    (let s := modes.setStation 9 { member .post with state := .unpolled }
     Hands s 6 (relayW 0) ∧ s.stationAt 2 5 = some 9 ∧ (s.station 9).state = .unpolled) ∧
    (∀ x ∈ [(0x00, FilterMode.pass), (0x40, .passNote), (0x80, .blockNote), (0xC0, .block)],
      lengthFits 6 (relayW x.1) = true ∧ rd (relayW x.1) 2 1 = x.1 ∧ modes.stationAt 2 5 = some 9 ∧
      (modes.station 9).state = .online ∧ modes.filterMode 9 x.1 = x.2 ∧ (modes.branch 2).relays.length < 4) ∧
    (Hands modes 6 (relayW 0x80) ∧ modes.trunk.notices.length < 64) ∧
    (Hands crowded 6 (relayW 0x00) ∧ crowded.filterMode 9 0x00 = .pass ∧ 4 ≤ (crowded.branch 2).relays.length) :=
  ⟨⟨handed, handed, handed⟩, ⟨handed, by decide +kernel⟩, ⟨handed, by decide +kernel⟩, by decide +kernel,
    ⟨handed, by decide⟩, ⟨handed, by decide +kernel⟩⟩

theorem witness_RelayPassesTheFilter_modes :
    setupMode.trunk.mode = .setup ∧ modes.trunk.mode = .run ∧ (modes.station 9).kind = .post := by decide

/-- A station record of a post at address 31 of branch 5, enabled or not, as bytes. -/
def stationW (enabled : Byte) : List Byte := [127, 0, 1, 5, 0, 31, enabled, 4, 2, 255, 255]

theorem witness_BranchAndStationWrites :
    (Writing (online .post) .branch [2, 0, 7, 7, 50, 0, 4] 2 ∧ Writing (online .post) .branch [2, 0, 0, 1, 2, 0, 1] 2 ∧
      (checkBranch (rdBranch [0, 1, 2, 0, 1])).isSome = true ∧ ((online .post).branch 2).activeRate ≠ 0 ∧
      ((online .post).branch 2).exchange = none) ∧
    (let s := base.setStation 9 { member .post with state := .unpolled }
     Writing s .branch [2, 0, 7, 7, 50, 0, 4] 2 ∧ (checkBranch (rdBranch [7, 7, 50, 0, 4])).isSome = true ∧
     (s.branch 2).activeRate = 0 ∧ (s.station 9).enabled = true) ∧
    (Writing (polled .post .poll 0) .branch [2, 0, 0, 1, 2, 0, 1] 2 ∧
      ((polled .post .poll 0).branch 2).exchange.isSome = true) ∧
    (Writing base .station (stationW 0) 127 ∧ (checkStation (rdStation ((stationW 0).drop 2))).map (·.enabled) = some false ∧
      (base.station 127).enabled = false ∧ (base.station 127).state = .unpolled) ∧
    (Writing base .station (stationW 1) 127 ∧
      (checkStation (rdStation ((stationW 1).drop 2))).map (fun v => (v.enabled, v.kind)) = some (true, .post) ∧
      ∀ j, (base.station j).enabled = false) ∧
    (let x := { member .post with pontoon := none }
     let g := base.setStation 9 { x with enabled := false }
     ∀ s ∈ [(online .post).setStation 9 x, (polled .post .poll 0).setStation 9 x],
       lengthFits 5 (9 :: wr .station g 9) = true ∧ (s.station 9).enabled = true ∧
       checkStation (rdStation ((wr .station g 9).drop 2)) = some { (s.station 9).settings with enabled := false }) ∧
    (Writing (online .post) .station (9 :: 0 :: (stationW 1).drop 2) 9 ∧
      (checkStation (rdStation ((stationW 1).drop 2))).map (fun v => decide ({ v with enabled := true } ≠
        ((online .post).station 9).settings)) = some true) :=
  ⟨⟨writing, writing, by decide +kernel⟩, ⟨writing, by decide +kernel⟩, ⟨writing, by decide +kernel⟩,
    ⟨writing, by decide +kernel⟩, ⟨writing, by decide +kernel⟩, by decide +kernel, ⟨writing, by decide +kernel⟩⟩

theorem witness_BranchAndStationWrites_leaving :
    let s := departing .poll
    let w := le 2 9 ++ (stationW 1).drop 2
    Writing s .station w 9 ∧ (s.station 9).enabled = false ∧ (s.station 9).leaving.isSome = true ∧
    (checkStation (rdStation (w.drop 2))).map (fun v => (v.enabled, v.kind)) = some (true, .post) ∧
    ∀ j, (s.station j).enabled = false :=
  ⟨writing, by decide +kernel⟩

/-! ### Witnesses: shore power -/

theorem witness_OutletWriteAndTimers :
    (let g := base.setOutlet 191 { Outlet.fullClear with post := some 127, socket := 3, rating := 125 }
     let s := base.setOutlet 191 { Outlet.fullClear with state := .shed, plugTaken := true }
     Writing s .outlet (wr .outlet g 191) 191 ∧ (s.outlet 191).state.writable = true ∧
     (checkOutlet (rdOutlet ((wr .outlet g 191).drop 2))).map (fun v => (v.post, v.socket, v.rating)) =
       some (some 127, 3, 125) ∧ (∀ q, (s.outlet q).post = none)) ∧
    (let w := wr .outlet base 0
     Writing base .outlet w 0 ∧ (base.outlet 0).state.writable = true ∧
     (checkOutlet (rdOutlet (w.drop 2))).map (fun v => (v.post, v.socket)) = some ((base.outlet 0).post, (base.outlet 0).socket)) ∧
    (let g := base.setOutlet 0 { Outlet.fullClear with post := some 127, socket := 3 }
     let s := base.setOutlet 191 { Outlet.fullClear with post := some 127, socket := 3 }
     Writing s .outlet (wr .outlet g 0) 0 ∧ (s.outlet 0).state.writable = true ∧ (s.outlet 191).post = some 127 ∧
     (checkOutlet (rdOutlet ((wr .outlet g 0).drop 2))).map (fun v => (v.post, v.socket)) = some (some 127, 3)) ∧
    (let s := base.setOutlet 0 { Outlet.fullClear with state := .on }
     Writing s .outlet (wr .outlet base 0) 0 ∧ (s.outlet 0).state.writable = false) ∧
    (let s := oneOpen.setOutlet 3 { Outlet.fullClear with state := .starting, startTimer := some 5000, billing := some 511 }
     s.part.condition = .running ∧ (s.outlet 3).startTimer = some 5000 ∧ s.inCreditStop 511 = false) ∧
    (let s := (base.setAccount 0 { openAccount with exhausted := true }).setOutlet 3
       { Outlet.fullClear with state := .starting, startTimer := some 5000, billing := some 0 }
     (s.outlet 3).startTimer = some 5000 ∧ s.inCreditStop 0 = true) ∧
    ((base.setOutlet 3 { Outlet.fullClear with state := .grace, graceTimer := some 900000 }).outlet 3).graceTimer =
      some 900000 :=
  ⟨⟨writing, by decide +kernel⟩, ⟨writing, by decide +kernel⟩, ⟨writing, by decide +kernel⟩, ⟨writing, by decide +kernel⟩,
    by decide +kernel⟩

/-- Outlet 3 at the occupied berth in a state, its plug taken. -/
def plugged (st : OutletState) : State :=
  (occupied.setAccount 0 openAccount).setOutlet 3 { Outlet.fullClear with berth := some 7, state := st, plugTaken := true }
def bare (st : OutletState) : State := base.setOutlet 191 { Outlet.fullClear with state := st }

theorem witness_ResetLockAndUnlockOutlet :
    rd (le 2 3) 0 2 = 3 ∧ rd (le 2 191) 0 2 = 191 ∧
    (let s := plugged .tripped
     Hands s 0x30 (le 2 3) ∧ (s.outlet 3).state = .tripped ∧ permit s 3 = .passed 5) ∧
    (let s := bare .tripped
     Hands s 0x30 (le 2 191) ∧ Hands s 0x32 (le 2 191) ∧ permit s 191 = .refused .noStay) ∧
    (let s := (plugged .locked).setFeeder 0 { Feeder.fullClear with admitted := 1 }
     Hands s 0x32 (le 2 3) ∧ (s.outlet 3).state = .locked ∧ (s.outlet 3).plugTaken = true ∧ permit s 3 = .shed) ∧
    (let s := bare .locked
     Hands s 0x30 (le 2 191) ∧ Hands s 0x31 (le 2 191) ∧ Hands s 0x32 (le 2 191) ∧ (s.outlet 191).state = .locked ∧
     (s.outlet 191).plugTaken = false) ∧
    (Hands (plugged .starting) 0x31 (le 2 3) ∧ ((plugged .starting).outlet 3).state.energised = true) ∧
    (Hands (plugged .queued) 0x31 (le 2 3) ∧ ((plugged .queued).outlet 3).state.energised = false) :=
  ⟨by decide +kernel, by decide +kernel, ⟨handed, by decide +kernel⟩, ⟨handed, handed, by decide +kernel⟩,
    ⟨handed, by decide +kernel⟩, ⟨handed, handed, handed, by decide +kernel⟩, ⟨handed, by decide +kernel⟩,
    ⟨handed, by decide +kernel⟩⟩

/-- Outlet 191 at the occupied berth 7, whose post is polled, its counter at 10. -/
def atPost (x : Outlet) : State :=
  ((((((polled .post .poll 0).setStation 9 { member .post with tapCount := some 0 }).setOutlet 191
    { x with post := some 9, berth := some 7, baseline := some 10 }).setBerth 7
    { fitBerth with state := .occupied, currentStay := some 5, outlets := [191] }).setStay 5 arrivedStay).setAccount 0
    openAccount).setPontoon 0 pontoonV

/-- Outlet 191 as before beside a QUEUED outlet of its berth, behind outlet 5 of another, the account without credit. -/
def berthOf (x : Outlet) : State :=
  (((((atPost x).setOutlet 190 { Outlet.fullClear with berth := some 7, state := .queued, plugTaken := true }).setOutlet 5
    { Outlet.fullClear with state := .queued, plugTaken := true }).setBerth 7
    { fitBerth with state := .occupied, currentStay := some 5, outlets := [190, 191] }).setStart 0
    { StartRecord.fullClear with queue := [5, 190] }).setAccount 0 { openAccount with exhausted := true }

theorem witness_ResetLockAndUnlockOutlet_mates :
    let s := berthOf { Outlet.fullClear with state := .locked }
    Hands s 0x32 (le 2 191) ∧ (s.outlet 191).state = .locked ∧ (s.outlet 191).plugTaken = false ∧
    (s.outlet 191).berth = some 7 ∧ (s.outlet 190).berth = some 7 ∧ (s.outlet 190).state = .queued ∧
    permit s 190 = .refused .credit ∧ ∀ p, ∀ q ∈ (s.start p).queue, (s.outlet q).state = .queued :=
  ⟨handed, by decide +kernel⟩

/-- Its entry, the counter where it stood, and the report. -/
def entryOf (plug energised leakage overcurrent : Bool) (current : Nat) : OutletEntry :=
  { plug := plug, energised := energised, leakage := leakage, overcurrent := overcurrent, current := current, energy := 10 }
def entryReport (e : OutletEntry) : Report := .post [e] [] none

/-- The targets of CLOSING, and an outlet CLOSING with one, or in another state with its plug taken and a grant of 16 A. -/
def targets : List CloseTarget := [.vacant, .tripped, .locked, .plugged, .shed, .queued]
def closingTo (target : CloseTarget) : Outlet :=
  { Outlet.fullClear with state := .closing, target := some target, plugTaken := true, granted := 16, grantPontoon := some 0 }
def drawing (st : OutletState) : Outlet :=
  { Outlet.fullClear with state := st, plugTaken := true, granted := 16, grantPontoon := some 0, billing := some 0 }

theorem witness_OutletWriteAndTimers_confirmation :
    (∀ x ∈ targets, let s := atPost (closingTo x)
      let e := entryOf true false false false 0
      hears s calm (entryReport e) = true ∧ s.outletAt 9 0 = some 191 ∧ (s.outlet 191).state = .closing ∧
      (s.outlet 191).target = some x ∧ e.plug = (s.outlet 191).plugTaken ∧ (s.outlet 191).baseline = some e.energy ∧
      (s.outlet 191).finalOwed = false ∧ (s.berth 7).outstanding = []) ∧
    (∀ plug ∈ [true, false], ∀ energised ∈ [true, false],
      let s := atPost { drawing .resync with plugTaken := plug }
      let e := entryOf plug energised false false 0
      hears s calm (entryReport e) = true ∧ s.outletAt 9 0 = some 191 ∧ (s.outlet 191).state = .resync ∧
      e.plug = (s.outlet 191).plugTaken ∧ permit s 191 = .passed 5 ∧ ((s.outlet 191).granted : Int) ≤ s.headroom 0) := by decide +kernel
theorem witness_OutletWriteAndTimers_resumption :
    (let s := (atPost (drawing .resync)).setPontoon 0 { pontoonV with capacity := 25 }
     permit s 191 = .passed 5 ∧ s.headroom 0 < (s.outlet 191).granted) ∧
    permit ((atPost (drawing .resync)).setStay 5 heldStay) 191 = .refused .noStay ∧
    (let s := (atPost { drawing .resync with billing := some 1 }).setAccount 1 { openAccount with exhausted := true }
     permit s 191 = .passed 5 ∧ s.inCreditStop 1 = true ∧ s.settings.graceTime ≠ 0) := by decide +kernel

/-- Every state of an outlet. -/
def outletStates : List OutletState :=
  [.vacant, .plugged, .queued, .starting, .on, .grace, .shed, .closing, .tripped, .locked, .resync]

theorem witness_ResetLockAndUnlockOutlet_reports :
    (∀ st ∈ outletStates, ∀ flags ∈ [(true, false), (false, true), (true, true)],
      let s := atPost (drawing st)
      let e := entryOf true true flags.1 flags.2 20
      hears s calm (entryReport e) = true ∧ s.outletAt 9 0 = some 191 ∧ (s.outlet 191).state = st ∧
      e.plug = (s.outlet 191).plugTaken ∧ (s.outlet 191).baseline = some e.energy ∧ (s.outlet 191).finalOwed = false) ∧
    (∀ x ∈ targets, ((atPost (closingTo x)).outlet 191).target = some x) ∧
    (∀ st ∈ outletStates, ∀ plug ∈ [true, false],
      let s := atPost { drawing st with plugTaken := !plug, deglitch := 7 }
      let e := entryOf plug true false false 0
      hears s calm (entryReport e) = true ∧ s.settings.deglitch ≤ (s.outlet 191).deglitch + 1 ∧
      e.plug ≠ (s.outlet 191).plugTaken ∧ (s.berth 7).state ≠ .held) ∧
    (∀ c ∈ [none, some 0], ((atPost { drawing .on with lastClear := c }).outlet 191).lastClear = c ∧
      (atPost { drawing .on with lastClear := c }).now < 600000) := by decide +kernel

/-- Feeder 11 in a state, at a step of its program. -/
def feeding (st : FeederState) (k : Option (Fin 8)) : State :=
  base.setFeeder 11 { Feeder.fullClear with state := st, position := k, stepTimer := k.map (fun _ => 4000) }

theorem witness_LoadProgramsOfAFeeder :
    rd (le 2 11) 0 2 = 11 ∧
    (Hands base 0x38 (le 2 11) ∧ Hands base 0x39 (le 2 11) ∧ (base.feeder 11).state = .normal) ∧
    (let s := feeding .shed none
     Hands s 0x38 (le 2 11) ∧ Hands s 0x39 (le 2 11) ∧ (s.feeder 11).state = .shed ∧ (s.feeder 11).shedCause ≠ some .office) ∧
    (let s := base.setFeeder 11 { Feeder.fullClear with state := .shed, shedCause := some .office }
     Hands s 0x38 (le 2 11) ∧ (s.feeder 11).shedCause = some .office) ∧
    (let s := feeding .dead none
     Hands s 0x38 (le 2 11) ∧ Hands s 0x39 (le 2 11) ∧ (s.feeder 11).state = .dead ∧ s.monitored 11 = false) ∧
    (let s := (feeding .dead none).setStation 9
       { Station.fullClear with kind := .feederMonitor, enabled := true, pontoon := some 11 }
     Hands s 0x39 (le 2 11) ∧ (s.feeder 11).state = .dead ∧ s.monitored 11 = true) ∧
    (let s := feeding .shedding (some 2)
     s.part.condition = .running ∧ (s.feeder 11).stepTimer = some 4000 ∧ (s.feeder 11).position = some 2 ∧
     ((s.program false)[(2 : Fin 8)]).endFlag = true) ∧
    ((feeding .shedding (some 7)).feeder 11).position = some 7 ∧
    (let s := feeding .restoring (some 0)
     (s.feeder 11).stepTimer = some 4000 ∧ (s.feeder 11).position = some 0 ∧
     ((s.program true)[(0 : Fin 8)]).endFlag = false ∧ ((s.program true)[(1 : Fin 8)]).delay ≠ 0) :=
  ⟨by decide +kernel, ⟨handed, handed, by decide +kernel⟩, ⟨handed, handed, by decide +kernel⟩, ⟨handed, by decide +kernel⟩,
    ⟨handed, handed, by decide +kernel⟩, ⟨handed, by decide +kernel⟩, by decide +kernel⟩

theorem witness_LoadProgramsOfAFeeder_queue :
    let s := ((((atPost { Outlet.fullClear with state := .queued, plugTaken := true }).setFeeder 0
      { Feeder.fullClear with state := .restoring, position := some 0, stepTimer := some 4000, admitted := 0 }).setStart 0
      { StartRecord.fullClear with queue := [191] })).setAccount 0 { openAccount with exhausted := true }
    s.part.condition = .running ∧ (s.feeder 0).stepTimer = some 4000 ∧ (s.feeder 0).position = some 0 ∧
    (s.feeder 0).state = .restoring ∧ ((s.program true)[(0 : Fin 8)]).mask &&& ~~~(s.feeder 0).admitted ≠ 0 ∧
    (s.start 0).slot = none ∧ (s.start 0).queue = [191] ∧ (s.outlet 191).state = .queued ∧
    permit s 191 = .refused .credit := by decide +kernel

/-! ### Witnesses: water and fuel -/

def flow (st : TapState) (owed : Bool) : State :=
  base.setTap 127 { Tap.fullClear with state := st, finalOwed := owed, runTimer := if st = .open then some 60000 else none }

theorem witness_TapCommandsAndRunTimer :
    rd (le 2 127) 0 2 = 127 ∧
    (Writing base .tap [127, 0, 127, 0, 1, 255, 0] 127 ∧ (base.tap 127).state ≠ .open ∧ (base.tap 127).finalOwed = false ∧
      (checkTap (rdTap [127, 0, 1, 255, 0])).map (fun v => (v.post, v.tapIndex)) = some (some 127, 1) ∧
      ∀ q, (base.tap q).post = none) ∧
    (let s := base.setTap 0 { Tap.fullClear with post := some 127, tapIndex := 1 }
     Writing s .tap [127, 0, 127, 0, 1, 255, 0] 127 ∧ (s.tap 0).post = some 127 ∧ (s.tap 0).tapIndex = 1) ∧
    (let s := flow .open false
     Writing s .tap [127, 0, 127, 0, 1, 255, 0] 127 ∧ Hands s 0x3C (le 2 127) ∧ Hands s 0x3D (le 2 127) ∧
     (s.tap 127).state = .open ∧ s.part.condition = .running ∧ (s.tap 127).runTimer = some 60000) ∧
    (let s := flow .closed true
     Hands s 0x3C (le 2 127) ∧ (s.tap 127).state = .closed ∧ (s.tap 127).finalOwed = true ∧ s.tapOutstanding 127 = false) ∧
    (let s := ((flow .closed true).setTap 127 { Tap.fullClear with berth := some 7, finalOwed := true }).setBerth 7
       { Berth.fullClear with state := .clearing, tap := some 127, outstanding := [{ item := .tap 127, endAt := 60000 }] }
     Hands s 0x3C (le 2 127) ∧ (s.tap 127).state = .closed ∧ s.tapOutstanding 127 = true) ∧
    (let s := flow .locked false
     Hands s 0x3C (le 2 127) ∧ Hands s 0x3D (le 2 127) ∧ (s.tap 127).state = .locked) ∧
    (Hands base 0x3C (le 2 127) ∧ Hands base 0x3D (le 2 127) ∧ (base.tap 127).state = .closed) :=
  ⟨by decide +kernel, ⟨writing, by decide +kernel⟩, ⟨writing, by decide +kernel⟩, ⟨writing, handed, handed, by decide +kernel⟩,
    ⟨handed, by decide +kernel⟩, ⟨handed, by decide +kernel⟩, ⟨handed, handed, by decide +kernel⟩,
    ⟨handed, handed, by decide +kernel⟩⟩

/-- Tap 127 at the occupied berth 7, whose post is polled, its counter at 10; the report of its entry. -/
def tapped (x : Tap) : State :=
  ((((polled .post .poll 0).setStation 9 { member .post with outletCount := some 0 }).setTap 127
    { x with post := some 9, berth := some 7, baseline := some 10 }).setBerth 7
    { fitBerth with state := .occupied, currentStay := some 5, tap := some 127 }).setStay 5 { arrivedStay with allowanceLeft := 30 }
    |>.setAccount 0 openAccount
def tapReport (flow : Counter) (valve flowing : Bool) (press : Bool) : Report :=
  .post [] [{ valveOpen := valve, flowing := flowing, flow := flow }] (if press then some 0 else none)
def openTapV : Tap :=
  { Tap.fullClear with state := .open, billing := some 0, allowanceStay := some 5, runTimer := some 60000 }

theorem witness_TapCommandsAndRunTimer_reports :
    (∀ x ∈ [(TapState.closed, false), (.closed, true), (.open, false), (.leak, false), (.locked, true)],
      ∀ press ∈ [false, true],
      let s := tapped { openTapV with state := x.1, finalOwed := x.2 }
      hears s (if press then numbered false else calm) (tapReport 10 true false press) = true ∧ s.tapAt 9 0 = some 127 ∧
      (s.tap 127).state = x.1 ∧ (s.tap 127).finalOwed = x.2) ∧
    (let s := tapped openTapV
     (∀ k ∈ [(0 : Fin 4), 1, 2, 3], s.outletAt 9 k = none) ∧ s.tapAt 9 1 = none ∧ (s.station 9).state = .online ∧
     (s.station 9).lastTaken = none ∧ s.trunk.notices.length < 61 ∧
     hears s calm (tapReport 16 true true false) = true ∧ s.settings.leakThreshold < ((16 : Counter) - 10).toNat) ∧
    (let s := (tapped openTapV).setAccount 0 { openAccount with exhausted := true }
     s.inCreditStop 0 = true) ∧
    ((tapped Tap.fullClear).setBerth 7 fitBerth).berthStay 7 = none ∧ (tapped Tap.fullClear).berthStay 7 = some 5 ∧
    (∀ n ∈ [0, 1], let s := tapped { Tap.fullClear with leakCount := n }
      (min 7 ((s.tap 127).leakCount + 1) < s.settings.tripCount ↔ n = 0)) := by decide +kernel

theorem witness_StockAndLowStock :
    (Writing base .tank ([1, 0] ++ le 4 1000000 ++ le 4 10000000) 1 ∧
      checkTank (rdTank (le 4 1000000 ++ le 4 10000000)) = some (1000000, 10000000)) ∧
    (Hands base 0x44 (amount 1 99999999) ∧ Hands base 0x45 (amount 1 99999999) ∧ rd (amount 1 99999999) 0 2 = 1 ∧
      rd (amount 1 99999999) 2 4 = 99999999) ∧
    (∀ w ∈ [amount 2 1, amount 1 100000000], lengthFits 0x44 w = true ∧ lengthFits 0x45 w = true ∧
      (1 < rd w 0 2 ∨ 99999999 < rd w 2 4)) ∧
    (Hands base 0x44 (amount 1 0) ∧ rd (amount 1 0) 2 4 = 0) :=
  ⟨⟨writing, by decide +kernel⟩, ⟨handed, handed, by decide +kernel⟩, by decide +kernel, ⟨handed, by decide +kernel⟩⟩

/-- Dispenser 3 without a sale in a state, at station 9 that is ONLINE; ESTOP on. -/
def pump (st : DispenserState) : State :=
  (online .dispenser).setDispenser 3 { Dispenser.fullClear with station := some 9, state := st }
def estopOnState : State :=
  { dispenserOf .authorised with lines := { base.lines with estop := Input.atLevel .asserted } }

/-- The settings of dispenser 3 behind station 9, or behind none, as bytes. -/
def pumpW (station : Nat) : List Byte := [3, 0] ++ le 2 station ++ [1, 0] ++ le 4 99999 ++ le 4 100 ++ [88, 2]

theorem witness_DispenserRecordOpenAndClose :
    rd (le 2 3) 0 2 = 3 ∧
    (∀ n ∈ [9, 65535, 127], (checkDispenser (rdDispenser ((pumpW n).drop 2))).isSome = true ∧
      ∀ q : DispenserId, q ≠ 3 → ((pump .idle).dispenser q).station = none) ∧
    (Writing (pump .idle) .dispenser (pumpW 9) 3 ∧ Writing (pump .idle) .dispenser (pumpW 127) 3 ∧
      ((pump .idle).dispenser 3).state.holdsSale = false ∧ ((pump .idle).dispenser 3).station = some 9) ∧
    (let s := pump .delivering
     Writing s .dispenser (pumpW 9) 3 ∧ (s.dispenser 3).state.holdsSale = true) ∧
    (Hands base 0x42 (le 2 3) ∧ (base.dispenser 3).state = .closed ∧ base.lines.estop.taken ≠ .asserted) ∧
    (Hands estopOnState 0x42 (le 2 0) ∧ (estopOnState.dispenser 0).state = .closed ∧
      estopOnState.lines.estop.taken = .asserted) ∧
    (∀ st ∈ [DispenserState.idle, .stopped], ((pump st).dispenser 3).state = st ∧ ((pump st).dispenser 3).state ≠ .closed) ∧
    (Hands (pump .idle) 0x42 (le 2 3) ∧ Hands (pump .idle) 0x43 (le 2 3) ∧ Hands (pump .stopped) 0x43 (le 2 3)) :=
  ⟨by decide +kernel, by decide +kernel, ⟨writing, writing, by decide +kernel⟩, ⟨writing, by decide +kernel⟩,
    ⟨handed, by decide +kernel⟩, ⟨handed, by decide +kernel⟩, by decide +kernel, ⟨handed, handed, handed⟩⟩

/-- Enough stock and credit for 50 l. -/
def dock : State :=
  ((pump .idle).setTank 0 { Tank.fullClear with stock := 100000 }).setAccount 511 { openAccount with balance := 100000 }
def priced : State := { dock with ledger := { dock.ledger with tariff := { dock.ledger.tariff with fuel0 := 1500 } } }

theorem ok_of_toOption {e : Except Reason PresetGiven} {g : PresetGiven} (h : e.toOption = some g) : e = .ok g := by
  cases e with
  | error _ => simp [Except.toOption] at h
  | ok _ => simpa [Except.toOption] using h

theorem witness_AuthoriseHoldsTheCredit :
    (∃ g, presetFor dock 3 511 false 100 = .ok g ∧ g.price = 0) ∧
    (let w := ids 3 511 ++ le 4 99999 ++ [0]
     Hands priced 0x40 w ∧ rd w 0 2 = 3 ∧ rd w 2 2 = 511 ∧ rd w 4 4 = 99999 ∧ rd w 8 1 = 0 ∧
     priced.lines.estop.taken ≠ .asserted ∧ (priced.dispenser 3).state = .idle ∧ (priced.dispenser 3).watch = none ∧
     priced.dispenserStation 3 = some .online ∧ (priced.account 511).state ≠ .closed ∧ priced.inCreditStop 511 = false ∧
     priced.fuel.journal.length + priced.salesOpen < 32) ∧
    ∃ g, presetFor priced 3 511 false (max 100 (min 99999 (priced.dispenser 3).maxPreset)) = .ok g ∧ g.price = 1500 :=
  ⟨⟨{ preset := 100, price := 0, hold := 1 }, ok_of_toOption (by decide +kernel), rfl⟩, ⟨handed, by decide +kernel⟩,
    ⟨{ preset := 10000, price := 1500, hold := 1500 }, ok_of_toOption (by decide +kernel), rfl⟩⟩

/-- A record of the sale journal. -/
def soldV : SaleRecord :=
  { number := 65535, dispenser := 3, grade := 0, account := 511, credential := none, volume := 4000, price := 1500,
    amount := 600, authTime := 0, settleTime := 0, staff := false, overrun := false, stopped := false, estimated := false,
    clamped := false }

/-- Each test of AUTHORISE failing for dispenser 3 and account 511. -/
def authorising : List Byte := ids 3 511 ++ le 4 99999 ++ [0]
def unserved : State := priced.setStation 9 { member .dispenser with state := .offline }
def stoppedDock : State := { priced with lines := { priced.lines with estop := Input.atLevel .asserted } }
def fullJournal : State := { priced with fuel := { priced.fuel with journal := List.replicate 32 soldV } }

theorem witness_AuthoriseHoldsTheCredit_refusals :
    (∀ w ∈ [ids 4 511 ++ le 4 99999 ++ [0], ids 3 512 ++ le 4 99999 ++ [0], ids 3 511 ++ le 4 100000 ++ [0],
        ids 3 511 ++ le 4 99999 ++ [2]], lengthFits 0x40 w = true ∧
      (4 ≤ rd w 0 2 ∨ 512 ≤ rd w 2 2 ∨ 99999 < rd w 4 4 ∨ 1 < rd w 8 1)) ∧
    (Hands stoppedDock 0x40 authorising ∧ stoppedDock.lines.estop.taken = .asserted) ∧
    (Hands selling 0x40 authorising ∧ (selling.dispenser 3).state ≠ .idle) ∧
    (Hands unserved 0x40 authorising ∧ unserved.dispenserStation 3 = some .offline) ∧
    (Hands (pump .idle) 0x40 authorising ∧ ((pump .idle).account 511).state = .closed) ∧
    (Hands fullJournal 0x40 authorising ∧ ¬ fullJournal.fuel.journal.length + fullJournal.salesOpen < 32) ∧
    (let s := priced.setAccount 511 { openAccount with state := .suspended }
     Hands s 0x40 authorising ∧ s.inCreditStop 511 = true) ∧
    (∀ x ∈ [(0, 100000, Reason.lowStock), (100000, 0, .lowCredit)],
      (match presetFor ((priced.setTank 0 { Tank.fullClear with stock := x.1 }).setAccount 511
        { openAccount with balance := (x.2.1 : Nat) }) 3 511 false 10000 with | .error r => some r | .ok _ => none) =
        some x.2.2) :=
  ⟨by decide +kernel, ⟨handed, rfl⟩, ⟨handed, by decide +kernel⟩, ⟨handed, by decide +kernel⟩, ⟨handed, by decide +kernel⟩,
    ⟨handed, by decide +kernel⟩, ⟨handed, by decide +kernel⟩, by decide +kernel⟩

/-- A sale of dispenser 3 with its timers running. -/
def timed (st : DispenserState) : State :=
  (dispenserOf st).setDispenser 3 { pumping st with nozzleTimer := some 120000, settleTimer := some 60000 }

theorem witness_SaleEndings :
    rd (le 2 3) 0 2 = 3 ∧
    (∀ st ∈ [DispenserState.authorised, .delivering, .settling], ((timed st).dispenser 3).sale = some saleV ∧
      ((timed st).dispenser 3).state = st ∧ ((timed st).dispenser 3).nozzleTimer = some 120000 ∧
      ((timed st).dispenser 3).settleTimer = some 60000 ∧ (timed st).part.condition = .running) ∧
    ((timed .authorised).dispenserStation 3 = some .online ∧ (timed .authorised).trunk.notices.length < 62 ∧
      ((timed .authorised).setStation 9 { member .dispenser with state := .offline }).dispenserStation 3 ≠ some .online) ∧
    (Hands (timed .authorised) 0x41 (le 2 3) ∧ Hands (timed .delivering) 0x41 (le 2 3) ∧
      Hands (timed .settling) 0x41 (le 2 3)) :=
  ⟨by decide +kernel, by decide +kernel, by decide +kernel, ⟨handed, handed, handed⟩⟩

theorem witness_EmergencyStop :
    (let s := dispenserOf .authorised
     s.part.condition = .running ∧ s.lines.estop.taken ≠ .asserted ∧ (s.dispenser 3).state = .authorised ∧
     (s.dispenser 0).state = .closed ∧ s.trunk.notices.length < 56) ∧
    (let s := (dispenserOf .delivering).setDispenser 0 { Dispenser.fullClear with state := .idle }
     s.lines.estop.taken ≠ .asserted ∧ (s.dispenser 3).state = .delivering ∧ (s.dispenser 0).state = .idle) ∧
    (let s := pump .stopped
     s.lines.estop.taken = .unknown ∧ (s.dispenser 3).state = .stopped ∧ (s.dispenser 0).state ≠ .stopped) ∧
    estopOnState.lines.estop.taken ≠ .released := by decide +kernel

/-- A journal of one record. -/
def sold : State := { base with fuel := { base.fuel with journal := [soldV] } }

theorem witness_ReadSaleAndDropSale :
    (Hands sold 0x46 [] ∧ sold.fuel.journal = [soldV]) ∧ (Hands base 0x46 [] ∧ base.fuel.journal = []) ∧
    (Hands sold 0x47 (le 2 65535) ∧ rd (le 2 65535) 0 2 = soldV.number) ∧
    (Hands sold 0x47 (le 2 65534) ∧ rd (le 2 65534) 0 2 ≠ soldV.number) ∧ Hands base 0x47 (le 2 65535) :=
  ⟨⟨handed, rfl⟩, ⟨handed, rfl⟩, ⟨handed, by decide +kernel⟩, ⟨handed, by decide +kernel⟩, handed⟩

/-! ### Witnesses: gates, the clock and the starts -/

def cardV : Credential :=
  { number := 77, kind := .staff, stay := none, account := none, pontoons := 1, validFrom := 0, validTo := 0,
    state := .exitOnly, zone := some 3, exitExpiry := some 150, expiryMet := true }
def cards : State := base.setCredential 1023 (some cardV)
/-- A credential record of slot 1023, of a kind, as bytes. -/
def cardW (slot kind : Nat) : List Byte :=
  le 2 slot ++ [77, 0, 0, 0] ++ le 1 kind ++ [255, 255, 255, 255, 1, 0] ++ List.replicate 9 0

theorem witness_CredentialsGatesAndHeadcount :
    (Writing cards .credential (cardW 1023 2) 1023 ∧ (rdCredential ((cardW 1023 2).drop 2)).kind ≠ 4 ∧
      ((checkCredential (rdCredential ((cardW 1023 2).drop 2))).any (fun v => decide (v.number = cardV.number) &&
        !cards.credentialStale v)) = true ∧ cards.credential 1023 = some cardV) ∧
    (∀ j c, j ≠ 1023 → cards.credential j = some c → c.number ≠ 77) ∧
    (Writing cards .credential (cardW 0 2) 0 ∧ (0 : CredentialSlot) ≠ 1023 ∧ cardV.number = 77) ∧
    (Writing base .credential (cardW 1023 4) 1023 ∧ (rdCredential ((cardW 1023 4).drop 2)).kind = 4) ∧
    (Writing base .gate ([11, 0, 127, 0] ++ [30, 0, 88, 2]) 11 ∧
      (checkGate (rdGate [127, 0, 30, 0, 88, 2])).map (·.reader) = some (some 127) ∧
      (∀ q : PontoonId, (base.gate q).reader = none) ∧ (base.gate 11).passages = []) ∧
    (Hands base 0x52 (ids 11 65535) ∧ base.gatesReleased = false ∧ rd (ids 11 65535) 0 2 = 11) ∧
    (Hands officeOn 0x52 (ids 11 65535) ∧ officeOn.gatesReleased = true) ∧
    (cards.part.condition = .running ∧ cardV.state = .exitOnly ∧ cardV.expiryMet = true) := by
  refine ⟨⟨writing, by decide +kernel⟩, ?_, ⟨writing, by decide⟩, ⟨writing, by decide +kernel⟩, ⟨writing, by decide +kernel⟩,
    ⟨handed, by decide +kernel⟩, ⟨handed, by decide +kernel⟩, by decide⟩
  intro j c hj hc
  simp [cards, State.credential, State.setCredential, Vector.getElem_set, base, State.reset] at hc
  exact absurd (Fin.ext hc.1.symm) hj

/-- Gate 11 in use, its timers running. -/
def gateRunning : State :=
  (base.setPontoon 11 pontoonV).setGate 11 { Gate.fullClear with lock := .unlocked, unlockEnd := some 5000,
                                                                 heldTimer := some 60000 }

/-- FIRE taken as asserted, with and without the office's release, and the gate released. -/
def fireOn (office : Bool) : State :=
  let s := gateRunning.setGate 11 { Gate.fullClear with lock := .released }
  { s with lines := { s.lines with fire := { s.lines.fire with taken := .asserted } }
           access := { s.access with officeRelease := office } }

theorem witness_GateTimersAndEmergencyRelease :
    (let s := gateRunning
     s.part.condition = .running ∧ (s.gate 11).unlockEnd = some 5000 ∧ (s.gate 11).heldTimer = some 60000 ∧
     s.gateInUse 11 = true ∧ s.gateInUse 0 = false ∧ s.lines.fire.taken ≠ .asserted ∧ s.access.officeRelease = false ∧
     s.trunk.notices.length < 64) ∧
    (let s := { gateRunning with access := { gateRunning.access with officeRelease := true } }
     s.lines.fire.taken ≠ .asserted ∧ s.access.officeRelease = true) ∧
    (∀ office ∈ [false, true], (fireOn office).lines.fire.taken = .asserted ∧
      (fireOn office).access.officeRelease = office ∧ (fireOn office).gateInUse 11 = true ∧
      ((fireOn office).gate 11).lock = .released) ∧
    (Hands gateRunning 0x53 (le 2 11) ∧ rd (le 2 11) 0 2 = 11 ∧ Hands gateRunning 0x50 [] ∧ Hands gateRunning 0x51 []) ∧
    (Hands (fireOn false) 0x50 [] ∧ Hands (fireOn true) 0x50 [] ∧ Hands (fireOn true) 0x51 [] ∧ Hands (fireOn false) 0x51 [] ∧
      Hands officeOn 0x51 []) :=
  ⟨by decide +kernel, by decide +kernel, by decide +kernel, ⟨handed, by decide +kernel, handed, handed⟩,
    ⟨handed, handed, handed, handed, handed⟩⟩

/-- A stay whose lapse, one whose overstay, a hold and a credential whose expiry the next second meets. -/
def deadlines : State :=
  (((clockSet oneHold).setStay 0 { expectedStay with settings := { stayV with arrival := 151, holdGrace := 0 } }).setStay 255
    { arrivedStay with settings := { stayV with departure := 151 } }).setCredential 1023
    (some { cardV with exitExpiry := some 151, expiryMet := false })

theorem witness_EmptyQueueLetsTimePass_deadlines :
    (let s := heldHarbour
     s.pending = [] ∧ s.part.condition = .running ∧ (s.stay 5).lapseMet = true) ∧
    (let s := occupied
     s.pending = [] ∧ s.part.condition = .running ∧ (s.stay 5).overstayMet = true) ∧
    (let s := oneHold
     s.pending = [] ∧ s.part.condition = .running ∧ s.holdSlot 15 = some officeHold ∧ officeHold.expiryMet = true) ∧
    (let s := cards
     s.pending = [] ∧ s.part.condition = .running ∧ s.credential 1023 = some cardV ∧ cardV.expiryMet = true) := by
  decide +kernel

theorem witness_EmptyQueueLetsTimePass_work :
    (∀ r ∈ [0, 1], let s := clockSet (waiting.setEngine { Engine.fullClear with resubmit := r })
      s.pending = [] ∧ s.part.condition = .running ∧ s.engine.queue.length < 4 ∧ s.engine.resubmit = r ∧
      s.leadDue 5 = true) ∧
    (let s := clockSet (waiting.setEngine fullQueue)
     s.pending = [] ∧ s.leadDue 5 = true ∧ s.fitQueued 5 = true) ∧
    (∀ walked, let s := harbour.setEngine { Engine.fullClear with scan := some { scanning 7 none with walked := walked } }
      s.pending = [] ∧ s.engine.scan = some { scanning 7 none with walked := walked }) ∧
    ((lateDay 2).pending = [] ∧ (lateDay 2).ledger.pass = none ∧ (lateDay 2).passDue.isSome = true) ∧
    (∀ walked, (passAt 255 walked base).pending = [] ∧ (passAt 255 walked base).ledger.pass.map (·.walked) = some walked) ∧
    ((online .post).pending = [] ∧ (online .post).portReady 2 = true) ∧
    (∀ c ∈ [CommandStart.restartDue, .clearDue],
      let s : State := { base with trunk := { base.trunk with commandStart := c } }
      s.pending = [] ∧ s.part.condition = .running ∧ s.trunk.commandStart = c) := by decide +kernel

theorem witness_ClockAndSignalLines :
    (deadlines.part.condition = .running ∧ deadlines.clock.isSet = true ∧ deadlines.clock.value < 4294967295 ∧
      (deadlines.stay 0).state = .expected ∧ (deadlines.stay 0).lapseMet = false ∧ (deadlines.stay 0).leadMet = none ∧ (deadlines.stay 255).state = .arrived ∧
      (deadlines.stay 255).overstayNoted = false ∧ (deadlines.holdSlot 15).isSome = true ∧
      (deadlines.credential 1023).isSome = true) ∧
    (let s : State := { base with clock := { base.clock with value := 4294967295, isSet := true } }
     s.part.condition = .running ∧ s.clock.value = 4294967295) ∧
    (let w := le 4 4294967295 ++ le 4 86399
     Hands base 0x60 w ∧ Hands (lateDay 2) 0x60 w ∧ rd w 0 4 = 4294967295 ∧ rd w 4 4 = 86399 ∧
     base.ledger.rolloverDay = none ∧ (lateDay 2).ledger.rolloverDay = some 2) ∧
    (let w := le 4 0 ++ le 4 86400
     Hands base 0x60 w ∧ 86399 < rd w 4 4) ∧
    ((base.setSignal 1 { Signal.fullClear with timer := some 3000, asserted := true }).signal 1).timer = some 3000 :=
  ⟨by decide +kernel, by decide +kernel, ⟨handed, handed, by decide +kernel⟩, ⟨handed, by decide +kernel⟩, by decide +kernel⟩

/-- A part in a condition, with the RESET line at a level and its memory agreeing or not. -/
def stopped (c : PartCondition) (low agrees : Bool) : State :=
  { base with part := { base.part with condition := c, resetLow := low, retentionAgrees := agrees } }

theorem witness_StartsRestartOrClear_taps : ∀ a, (clocked.account a).exhausted = false → 0 ≤ (clocked.account a).available := by
  simp [Account.available, Account.fullClear]

theorem witness_StartsRestartOrClear :
    (∀ c ∈ [CommandStart.restartDue, .clearDue],
      ({ base with trunk := { base.trunk with commandStart := c } } : State).trunk.commandStart = c) ∧
    (base.part.condition = .running ∧ (stopped .inReset true true).part.condition = .inReset ∧
      (stopped .unpowered false true).part.condition = .unpowered ∧ (stopped .unpowered false true).part.resetLow = false ∧
      (stopped .unpowered false true).part.retentionAgrees = true ∧
      (stopped .unpowered false false).part.retentionAgrees = false ∧
      (stopped .unpowered true true).part.resetLow = true) := by
  refine ⟨fun c _ => rfl, by decide⟩

/-! ### Worked values of the manual -/

/-- The image of the example under R194: outlet 0 ON at a grant of 32 A, outlet 1 OFF, the tap OPEN, display code 21. -/
theorem test_post_image_of_R194 :
    ({ Station.fullClear with
       kind := .post, outletCount := some 2, tapCount := some 1
       image := { Image.default with
                  outlets := #v[{ on := true, code := 3 }, { on := false, code := 0 }, { on := false, code := 0 },
                                { on := false, code := 0 }]
                  taps := #v[true, false], postDisplay := 21 } } : Station).imagePayload = [0x83, 0x00, 0x01, 0x15] := by
  decide +kernel

/-- The codes of the two enumerations whose first member is NONE. -/
theorem test_codes_with_none : PowerClass.ofCode 0 = some .none ∧ PowerClass.ofCode 5 = none ∧
    StationKind.ofCode 0 = some .none ∧ StationKind.ofCode 5 = none := by decide

/-- "Worked charges" of 03_accounts_holds_and_tariffs.md: power, a berth night, water. -/
theorem test_worked_charges :
    (effectivePrice 315 (-10) = 284 ∧ (1234 * 284 + 7500) / 10000 = 35 ∧ (1234 * 284 + 7500) % 10000 = 7956) ∧
    effectivePrice 4500000 10 = 4950000 ∧ effectivePrice 420 0 = 420 := by decide
theorem test_worked_power_charge :
    ((chargeAmount 1 .power 1234 284 (base.setAccount 1 { openAccount with residuePower := 7500 })).2.account 1) =
      { openAccount with residuePower := 7956, balance := 965 } := by decide +kernel

/-- The limit codes and limits of "a limited start and an upgrade" in 05_shore_power_outlets.md: 54 A of headroom give 32. -/
theorem test_worked_start : largestStep 54 = some 32 ∧ largestStep 22 = some 16 ∧ largestStep 6 = none := by decide

/-- A FREE berth of 10 by 5 dm and 8 dm depth on pontoon 0, with an outlet rated 16 A. -/
def smallBerth : State := base.setBerth 7 { Berth.fullClear with maxLoa := 10, maxBeam := 5, depth := 8, outlets := [0] }
def fits : FitValues := { loa := 10, beam := 5, draft := 5, power := .none, prefs := 1 }

theorem test_each_condition_of_R12 :
    firstFailing (eligibility smallBerth fits 7 0) = none ∧
    firstFailing (eligibility (smallBerth.setBerth 7 { smallBerth.berth 7 with state := .closed }) fits 7 0) = some 1 ∧
    firstFailing (eligibility smallBerth { fits with loa := 11 } 7 0) = some 2 ∧
    firstFailing (eligibility smallBerth { fits with beam := 6 } 7 0) = some 3 ∧
    firstFailing (eligibility smallBerth { fits with draft := 6 } 7 0) = some 4 ∧
    firstFailing (eligibility smallBerth { fits with prefs := 2 } 7 0) = some 5 ∧
    firstFailing (eligibility smallBerth { fits with power := .a32 } 7 0) = some 6 ∧
    firstFailing (eligibility smallBerth { fits with power := .a16 } 7 0) = some 7 := by
  decide +kernel

/-! ### Single rules -/

/-- The commands in turn, and the state that they leave. -/
def run (l : List Instr) (s : State) : Option State := l.foldlM (fun s c => left (exec c s)) s

/-- RESET stays low over a power cycle, and its release then restarts the part (R191). -/
theorem test_reset_low_over_a_power_cycle :
    ((run [.resetAsserted, .powerLoss false, .powerUp true 5 false] base).map (·.part.condition)) = some .inReset ∧
    ((run [.resetAsserted, .powerLoss false, .powerUp true 5 false, .resetReleased 5 false] base).map
      (fun t => (t.part.condition, t.trunk.cause))) = some (.running, .resetLine) := by decide +kernel

/-- A gate that leaves use while it shows a denial shows nothing (R158). -/
theorem test_gate_out_of_use_shows_nothing :
    let s := (onEleven pontoonV).setGate 11 { Gate.fullClear with display := 7 }
    let w := wr .pontoon (onEleven gateless) 11
    (left (exec (.writePontoonRecord (hd 5 (1 :: w)) w) s)).map (fun t => (t.gate 11).display) = some 0 := by decide +kernel

/-- A due stay that has an entry takes its lead mark though the queue is full (R28). -/
theorem test_lead_mark_of_a_queued_stay :
    (left (exec .leadSubmission (clockSet (waiting.setEngine fullQueue)))).map
      (fun t => (t.engine.leadMarks[(5 : StayId)], t.engine.queue.length)) = some (true, 4) := by decide +kernel

/-- A SHED outlet that a FREE berth keeps stays SHED over a berth write (R4, R91). -/
theorem test_kept_outlet_stays_shed :
    let s := harbour.setOutlet 3 { Outlet.fullClear with berth := some 7, state := .shed }
    let w := wr .berth harbour 7
    (left (exec (.writeBerthRecord (hd 5 (2 :: w)) w) s)).map (fun t => (t.outlet 3).state) = some .shed := by decide +kernel

/-- A lead submission that a clock event has made due stays due when the clock is set back (R28, R185). -/
theorem test_due_stay_stays_due_when_the_clock_is_set_back :
    let s := (clockSet waiting).setStay 5 { expectedStay with settings := { stayV with arrival := 43351, departure := 99999 } }
    let w := le 4 0 ++ le 4 43200
    s.leadDue 5 = false ∧
    (run [.clockAdvance, .setClock (hd 0x60 w) w] s).map (fun t => (t.clock.value, t.leadDue 5)) = some (0, true) := by
  decide +kernel

/-- An absent field is all ones in its width, behind a presence byte as well (R193). -/
theorem test_absent_fields_are_all_ones :
    present 2 none = [0, 255, 255] ∧ opt 4 none = [255, 255, 255, 255] ∧
    credentialField none = [0, 255, 255, 255, 255, 255, 255] ∧ (stayRecord base (base.stay 0)).drop 35 = [0, 255, 255, 255, 255, 0] ∧
    (Dispenser.fullClear.coded.drop 15).take 31 = 0 :: List.replicate 30 255 := by decide +kernel

/-- A taken plug makes the arrival of R18 at an outlet of any state; a LOCKED outlet stays LOCKED (R89; log entry 37). -/
theorem test_plug_arrives_at_any_outlet :
    ∀ x ∈ plugStates,
      (left (exec (.postReport 2 (reportTelegram 5 calm (.post [outE 10] [] none))) (plugging x))).map (fun t =>
        ((t.stay 5).state, (t.berth 7).state, t.trunk.notices.any (fun n => decide (n.note = .stayArrived 5 7 .plug)),
          decide (x.1 = .locked → (t.outlet 191).state = .locked))) = some (.arrived, .occupied, true, true) := by
  decide +kernel

/-- A post that becomes ONLINE stops the settle timer of the dispenser that names it (R136, R148; log entry 42). -/
theorem test_settle_timer_of_a_dispenser_that_names_a_post :
    (left (exec (.postReport 2 (reportTelegram 5 calm (.post [outE 10] [] none))) (misnamed .offline))).map (fun t =>
      ((t.dispenser 3).settleTimer, (t.gate 11).door)) = some (none, .unknown) := by decide +kernel

/-- The attention list that a restart's filling leaves on branch 2 (R83). -/
def filled (s : State) : List StationId := ((refillAttention 2 s).branch 2).attention

/-- The filling lists the station of a SETTLING or STOPPED dispenser, and no station of another kind (R77, R154). -/
theorem test_filling_lists_the_station_of_a_dispenser :
    ∀ k ∈ [StationKind.dispenser, .post, .gateReader, .feederMonitor],
    ∀ x ∈ [DispenserState.settling, .stopped, .idle, .closed],
      filled ((online k).setDispenser 3 { Dispenser.fullClear with station := some 9, state := x }) =
        if k = .dispenser ∧ (x = .settling ∨ x = .stopped) then [9] else [] := by decide +kernel

/-- The filling lists a post with a CLOSING outlet or an OPEN tap (R108, R132), and no reader (R171). -/
theorem test_filling_lists_posts_and_no_reader :
    filled (atPost (closingTo .vacant)) = [9] ∧
    filled ((online .post).setTap 0 { Tap.fullClear with post := some 9, state := .open }) = [9] ∧
    filled ((online .gateReader).setStation 9
      { member .gateReader with image := { Image.default with lock := .unlocked } }) = [] := by decide +kernel

/-- A promised restart leaves the station of a dispenser it makes SETTLING on its branch's list (R154, R191). -/
theorem test_restart_lists_a_settling_dispenser :
    let s := (online .dispenser).setDispenser 3 { Dispenser.fullClear with station := some 9, state := .settling }
    (left (exec (.commandRestart 0 false) { s with trunk := { s.trunk with commandStart := .restartDue } })).map
      (fun t => (t.branch 2).attention) = some [9] := by decide +kernel

/-- A second write of a disabled record leaves the disabling to the end of the exchange in flight (R68). -/
theorem test_second_write_of_a_disabled_record :
    let w := le 2 9 ++ (stationW 0).drop 2
    let write := Instr.writeStationRecord (hd 5 (9 :: w)) w
    (run [write] (departing .poll)).map (fun t => ((t.station 9).state, (t.station 9).leaving)) = some (.online, some (2, 5)) ∧
    (run [write, .answerTimeout 2] (departing .poll)).map (fun t =>
      ((t.station 9).state, (t.station 9).leaving, (t.branch 2).attention)) = some (.unpolled, none, [10]) := by decide +kernel

/-- A dispenser that ESTOP stops lists its station, and no station of another kind (R77, R137; log entry 48). -/
theorem test_attention_goes_by_the_kind_of_the_station :
    ∀ k ∈ [StationKind.feederMonitor, .post, .gateReader, .dispenser],
      let s := (online k).setDispenser 3 { Dispenser.fullClear with station := some 9, state := .idle }
      (left (exec .estopAsserted s)).map (fun t => ((t.dispenser 3).state, (t.branch 2).attention)) =
        some (.stopped, if k = .dispenser then [9] else []) := by decide +kernel

/-- Station 9 as a gate reader that is listed, its image UNLOCKED; gate 11 names it, UNLOCKED with passages. -/
def listedReader (passages : List Passage) : State :=
  (((online .gateReader).setStation 9 { member .gateReader with image := { Image.default with lock := .unlocked } }).setBranch 2
    { line with attention := [9] }).setGate 11
    { Gate.fullClear with reader := some 9, lock := .unlocked, unlockEnd := some 5000, passages := passages }

/-- A reader whose gate has a pending passage keeps its place when a dispenser that names it becomes IDLE (R77). -/
theorem test_idle_dispenser_leaves_a_busy_reader_listed :
    let s := { (listedReader [waitingPassage .out]).setDispenser 3
      { Dispenser.fullClear with station := some 9, state := .stopped } with
      lines := { base.lines with estop := Input.atLevel .asserted } }
    (left (exec .estopReleased s)).map (fun t => ((t.dispenser 3).state, (t.branch 2).attention)) = some (.idle, [9]) := by
  decide +kernel

/-- A former reader whose image lock stays UNLOCKED keeps its place (R77; log entry 48). -/
theorem test_former_reader_keeps_its_place :
    let w := le 2 11 ++ (le 2 65535 ++ le 2 5 ++ le 2 60)
    (left (exec (.writeGateRecord (hd 5 (18 :: w)) w) (listedReader []))).map (fun t =>
      ((t.gate 11).reader, (t.station 9).image.lock, (t.branch 2).attention)) = some (none, .unlocked, [9]) := by
  decide +kernel

/-- A report of an AUTHORISED dispenser with the final flag set is passed over with its card, while the card of one with the flag
clear is refused (R139, R145; log entry 54). -/
theorem test_card_of_a_report_before_the_enable :
    ∀ final ∈ [true, false],
      let report : Report := .dispenser false false final 0 (some 77)
      let ev : EventByte := { calm with event := true }
      (left (exec (.dispenserReport 2 (reportTelegram 5 ev report)) (dispenserOf .authorised))).map (fun t =>
        ((t.dispenser 3).enableSeen, t.trunk.notices.any (fun n => decide (n.note = .saleRefused 3 .state 77)))) =
        some (!final, !final) := by decide +kernel

/-- A confirmation, a RESET OUTLET and an UNLOCK OUTLET, with a plug or without, evaluate the other outlets of the berth too
(R91). -/
theorem test_sibling_is_evaluated :
    let sibling (o : Option State) : Option (OutletState × Option PlugReason × List OutletId) :=
      o.map (fun t => ((t.outlet 190).state, (t.outlet 190).reason, (t.start 0).queue))
    let w := le 2 191
    ∀ o ∈ [run [.postReport 2 (reportTelegram 5 calm (entryReport (entryOf true false false false 0)))]
          (berthOf (closingTo .plugged)),
        run [.resetOutlet (hd 0x30 w) w] (berthOf { Outlet.fullClear with state := .tripped }),
        run [.unlockOutlet (hd 0x32 w) w] (berthOf { Outlet.fullClear with state := .locked, plugTaken := true }),
        run [.unlockOutlet (hd 0x32 w) w] (berthOf { Outlet.fullClear with state := .locked })],
      (sibling o).map (fun x => (x.1, x.2.1, decide ((190 : OutletId) ∈ x.2.2))) = some (.plugged, some .credit, false) := by
  decide +kernel

/-- A RESTORE step by which classes enter has an unchanged head considered, whose permit has failed meanwhile (R122). -/
theorem test_admission_considers_the_queue :
    let s := ((((atPost { Outlet.fullClear with state := .queued, plugTaken := true }).setFeeder 0
      { Feeder.fullClear with state := .restoring, position := some 0, stepTimer := some 4000, admitted := 0 }).setStart 0
      { StartRecord.fullClear with queue := [191] })).setAccount 0 { openAccount with exhausted := true }
    (run [.programStepTimer 0] s).map (fun t => ((t.outlet 191).state, (t.outlet 191).reason, (t.start 0).queue)) =
      some (.plugged, some .credit, []) := by decide +kernel

/-- An EXTEND of an ARRIVED stay while the clock is unset raises CLOCK_UNSET, once (R19, R187). -/
theorem test_extend_without_a_clock :
    let w (n : Nat) := le 2 5 ++ le 4 n
    let extend (n : Nat) := Instr.extend (hd 0x15 (w n)) (w n)
    (run [extend 201, .answerSent, extend 202] occupied).map (fun t =>
      (t.clock.unsetNoted, (t.stay 5).settings.departure, t.trunk.notices.countP (fun n => decide (n.note = .clockUnset)))) =
      some (true, 202, 1) := by decide +kernel

/-- A yes/no field is 0 or 1 (R193; log entry 36). -/
theorem test_flag_byte_above_one_is_no_flag :
    let w := (wr .stay harbour 5).drop 2
    (checkStay (rdStay w)).isSome = true ∧ checkStay (rdStay (w.take 26 ++ [2])) = none ∧
    (stepsChecked (rdProgram (List.replicate 24 1))).isSome = true ∧
    stepsChecked (rdProgram (List.replicate 23 1 ++ [2])) = none := by decide +kernel

end Sys2Proof.Tests
end

