-- ==== Sys2Proof/Proofs/Requests.lean ====
section
/-! SUPPORT. What a taken request leaves, said in the terms of the statements: the reply that is owed and kept, and the blocks that
the request's owner keeps. -/

namespace Sys2Proof.Machine

/-! ### Blocks -/

theorem Block.Same.trans {b : Block} {t u s : State} (h : b.Same t u) (k : b.Same u s) : b.Same t s := by
  cases b <;> simp_all [Block.Same]

theorem Block.mem_every (b : Block) : b ∈ Block.every := by
  cases b <;> decide

theorem State.keepsBut_iff {t s : State} {bs : List Block} : t.KeepsBut s bs ↔ ∀ b, b ∉ bs → b.Same t s := by
  simp [State.KeepsBut, State.Keeps, Block.mem_every]

/-- Frames compose: what is named on the way is named by the whole. -/
theorem State.KeepsBut.trans {t u s : State} {bs cs ds : List Block} (h : t.KeepsBut u bs) (k : u.KeepsBut s cs)
    (hb : bs ⊆ ds) (hc : cs ⊆ ds) : t.KeepsBut s ds := by
  rw [State.keepsBut_iff] at *
  exact fun b out => (h b (fun m => out (hb m))).trans (k b (fun m => out (hc m)))

/-- The stays are part of the register. -/
theorem stay_eq_of_register {t s : State} (h : t.register = s.register) (y : StayId) : t.stay y = s.stay y := by
  simp [State.stay, h]

/-! ### The end of an event -/

/-- Following a demand moves the line and its timer, and no setting (R188). -/
theorem Signal.follow_settings (x : Signal) (demand : Bool) (now : Nat) :
    (x.follow demand now).mask = x.mask ∧ (x.follow demand now).enable = x.enable ∧
    (x.follow demand now).polarity = x.polarity ∧ (x.follow demand now).stretch = x.stretch := by
  unfold Signal.follow
  split <;> simp

theorem followSignal_signals (i : Fin 2) (sources : BitVec 7) (s : State) :
    Block.signals.Same (followSignal i sources s) s := by
  intro j
  by_cases hij : i = j
  · subst hij
    simpa [followSignal] using Signal.follow_settings (s.signal i) ((s.signal i).demand sources) s.now
  · simp [followSignal, setSignal_signal_ne _ _ hij]

/-- The end of an event keeps every block: the scratch of R72 and the level of a line are in none. -/
theorem finish_same (b : Block) (s : State) : b.Same (finish s) s := by
  cases b
  case signals => exact (followSignal_signals 1 _ _).trans (followSignal_signals 0 _ _)
  all_goals simp [Block.Same]

/-! ### A request that its owner takes -/

/-- The answer that is owed and kept is all that the Trunk Port adds to the work of the owner (R173). -/
theorem takeFresh_same {code : Nat} {p : List Byte} (sized : lengthFits code p = true) (h : ReqHeader) (owner : Owner)
    (s : State) {b : Block} (other : b ≠ .answers) : b.Same (takeFresh h code p owner s) (owner s).1 := by
  have fields := takeFresh_fields sized h owner s
  cases b <;> simp_all [Block.Same, State.signal]

/-- A request that the Trunk Port takes completes: the owner's answer is owed and kept, and every other block is as the owner
leaves it. -/
theorem request_next {s : State} {h : ReqHeader} {code : Nat} {p : List Byte} (taken : s.Takes h code p) {owner : Owner}
    (owed : (owner s).1.trunk.owed = s.trunk.owed) :
    ∃ t, request h code p owner s = .next t ∧ t.Replies s h code (owner s).2 ∧ t.KeepsBut (owner s).1 [.answers] := by
  refine ⟨_, request_taken taken owner, ?_, ?_⟩
  · simp [State.Replies, takeFresh_fields taken.sized h owner s, owed, taken.free]
  · rw [State.keepsBut_iff]
    intro b other
    exact (finish_same b _).trans (takeFresh_same taken.sized h owner s (by simpa using other))

/-- A command is refused when its owner refuses it and changes nothing (R174). -/
theorem refuses_of_owner {s : State} {c : Instr} {h : ReqHeader} {code : Nat} {p : List Byte} (taken : s.Takes h code p)
    {owner : Owner} {r : Reason} {detail : Nat} (row : exec c s = request h code p owner s)
    (answer : owner s = (s, .refused r detail)) : s.Refuses c h code r detail := by
  have next := request_next taken (owner := owner) (by rw [answer])
  rw [answer] at next
  rwa [State.Refuses, row]

/-! ### Operands -/

/-- A number read from `n` bytes fits them (R193). -/
theorem rd_lt (bs : List Byte) (i n : Nat) : rd bs i n < 256 ^ n := by
  induction n generalizing i with
  | zero => simp [rd]
  | succ n ih =>
    have low := (bs.getD i 0).isLt
    have high := ih (i + 1)
    rw [rd, Nat.pow_succ]
    omega

theorem idOf_val {n : Nat} (i : Fin n) : idOf n i.val = some i := by
  simp [idOf]

theorem idOf_eq_none {n v : Nat} (h : n ≤ v) : idOf n v = none := by
  simp [idOf, h]

/-- Every number of four bytes is a value of the marina clock (R185). -/
theorem clockValueOf_rd (bs : List Byte) (i : Nat) : clockValueOf (rd bs i 4) = some (rd bs i 4) := by
  have fits := rd_lt bs i 4
  have inRange : rd bs i 4 ≤ Config.clockMax := by
    unfold Config.clockMax
    omega
  simp [clockValueOf, upTo, inRange]

end Sys2Proof.Machine
end

