-- ==== Sys2Proof/Proofs/Departure.lean ====
section
/-! SUPPORT. A new departure time of a stay: the overstay test of R19 case by case, EXTEND (R11), and the proof of its statement. -/

namespace Sys2Proof.Machine

/-! ### The overstay (R19) -/

/-- A notice raised while the upward queue has a place joins its tail (R183). -/
theorem raise_notices {s : State} (room : s.trunk.notices.length < Config.noticeLimit) (n : Note) :
    (raise n s).trunk.notices = s.trunk.notices ++ [{ note := n, time := s.stamp }] := by
  simp [raise, room]

theorem raise_register (n : Note) (s : State) : (raise n s).register = s.register := by simp

theorem noteClockUse_register (s : State) : (noteClockUse s).register = s.register := by simp

/-- A set clock is used without a notice (R187). -/
theorem noteClockUse_of_set {s : State} (isSet : s.clock.isSet = true) : noteClockUse s = s := by
  simp [noteClockUse, isSet]

theorem noteOverstay_stay (y : StayId) (s : State) :
    (noteOverstay y s).stay y = { s.stay y with overstayNoted := true, overstayMet := false } := by
  rw [noteOverstay, stay_eq_of_register (raise_register _ _), setStay_stay]

theorem noteOverstay_stay_ne {y z : StayId} (other : z ≠ y) (s : State) : (noteOverstay y s).stay z = s.stay z := by
  rw [noteOverstay, stay_eq_of_register (raise_register _ _), setStay_stay_ne _ _ other.symm]

/-- OVERSTAY carries the stay, its berth and its departure time, and is stamped with the clock (R19, R183). -/
theorem noteOverstay_notices {s : State} (room : s.trunk.notices.length < Config.noticeLimit) (y : StayId) :
    (noteOverstay y s).trunk.notices =
      s.trunk.notices ++ [{ note := .overstay y (s.stay y).berth (s.stay y).settings.departure, time := s.stamp }] := by
  rw [noteOverstay, raise_notices (by simpa using room)]
  simp

/-! ### A departure time against the clock (R10, R11, R19), one equation for each case -/

section Rewritten

variable {s : State} {y : StayId}

theorem departureRewritten_of_not_arrived (state : (s.stay y).state ≠ .arrived) : departureRewritten y s = s := by
  simp [departureRewritten, state]

theorem departureRewritten_of_unset (state : (s.stay y).state = .arrived) (unset : s.clock.isSet = false) :
    departureRewritten y s = noteClockUse s := by
  simp [departureRewritten, state, unset]

theorem departureRewritten_of_later (state : (s.stay y).state = .arrived) (isSet : s.clock.isSet = true)
    (later : s.clock.value < (s.stay y).settings.departure) :
    departureRewritten y s = s.setStay y { s.stay y with overstayNoted := false, overstayMet := false } := by
  simp [departureRewritten, state, isSet, later]

theorem departureRewritten_of_noted (state : (s.stay y).state = .arrived) (isSet : s.clock.isSet = true)
    (reached : (s.stay y).settings.departure ≤ s.clock.value) (noted : (s.stay y).overstayNoted = true) :
    departureRewritten y s = s := by
  simp [departureRewritten, state, isSet, Nat.not_lt.mpr reached, noted]

theorem departureRewritten_of_overstay (state : (s.stay y).state = .arrived) (isSet : s.clock.isSet = true)
    (reached : (s.stay y).settings.departure ≤ s.clock.value) (fresh : (s.stay y).overstayNoted = false) :
    departureRewritten y s = noteOverstay y s := by
  simp [departureRewritten, state, isSet, Nat.not_lt.mpr reached, fresh]

end Rewritten

/-- The states that the overstay test can leave, for what holds of all its cases alike. -/
theorem departureRewritten_cases (y : StayId) (s : State) :
    departureRewritten y s = s ∨ departureRewritten y s = noteClockUse s ∨
    departureRewritten y s = s.setStay y { s.stay y with overstayNoted := false, overstayMet := false } ∨
    departureRewritten y s = noteOverstay y s := by
  dsimp only [departureRewritten]
  split_ifs <;> simp

/-- The overstay test writes the two overstay fields of its stay and no other. -/
theorem departureRewritten_stay (y : StayId) (s : State) :
    ∃ noted met, (departureRewritten y s).stay y = { s.stay y with overstayNoted := noted, overstayMet := met } := by
  obtain same | use | later | overstay := departureRewritten_cases y s
  · exact ⟨_, _, by rw [same]⟩
  · exact ⟨_, _, by rw [use, stay_eq_of_register (noteClockUse_register s)]⟩
  · exact ⟨_, _, by rw [later, setStay_stay]⟩
  · exact ⟨_, _, by rw [overstay, noteOverstay_stay]⟩

theorem departureRewritten_stay_ne {y z : StayId} (other : z ≠ y) (s : State) :
    (departureRewritten y s).stay z = s.stay z := by
  obtain same | use | later | overstay := departureRewritten_cases y s
  · rw [same]
  · rw [use, stay_eq_of_register (noteClockUse_register s)]
  · rw [later, setStay_stay_ne _ _ other.symm]
  · rw [overstay, noteOverstay_stay_ne other]

theorem departureRewritten_keepsBut (y : StayId) (s : State) :
    (departureRewritten y s).KeepsBut s [.register, .clock, .notices] := by
  rw [State.keepsBut_iff]
  intro b out
  cases b <;> simp_all [Block.Same, State.signal]

/-- Under a set clock the overstay test is no first use of an unset one (R187). -/
theorem departureRewritten_clock {s : State} (isSet : s.clock.isSet = true) (y : StayId) :
    (departureRewritten y s).clock = s.clock := by
  obtain same | use | later | overstay := departureRewritten_cases y s
  · rw [same]
  · rw [use, noteClockUse_of_set isSet]
  · rw [later, setStay_clock]
  · rw [overstay]; simp

/-! ### EXTEND (R11) -/

/-- The state with the departure time of stay `y` replaced, before the overstay test: what EXTEND hands to `departureRewritten`. -/
def State.withDeparture (s : State) (y : StayId) (d : Nat) : State :=
  s.setStay y { s.stay y with settings := { (s.stay y).settings with departure := d } }

section WithDeparture

variable (s : State) (y : StayId) (d : Nat)

@[simp] theorem withDeparture_stay :
    (s.withDeparture y d).stay y = { s.stay y with settings := { (s.stay y).settings with departure := d } } := by
  simp [State.withDeparture]

theorem withDeparture_stay_ne {z : StayId} (other : z ≠ y) : (s.withDeparture y d).stay z = s.stay z := by
  rw [State.withDeparture, setStay_stay_ne _ _ other.symm]

@[simp] theorem withDeparture_clock : (s.withDeparture y d).clock = s.clock := rfl
@[simp] theorem withDeparture_trunk : (s.withDeparture y d).trunk = s.trunk := rfl
@[simp] theorem withDeparture_stamp : (s.withDeparture y d).stamp = s.stamp := rfl
@[simp] theorem withDeparture_berths : (s.withDeparture y d).register.berths = s.register.berths := rfl
@[simp] theorem withDeparture_arrivals : (s.withDeparture y d).register.arrivals = s.register.arrivals := rfl

theorem withDeparture_keepsBut : (s.withDeparture y d).KeepsBut s [.register] := by
  rw [State.keepsBut_iff]
  intro b out
  cases b <;> simp_all [Block.Same, State.withDeparture]

end WithDeparture

theorem exec_extend (h : ReqHeader) (p : List Byte) (s : State) :
    exec (.extend h p) s = request h 0x15 p (extendOwner (rd p 0 2) (rd p 2 4)) s := rfl

theorem extendOwner_badStay {n : Nat} (big : 256 ≤ n) (d : Nat) (s : State) :
    extendOwner n d s = refuse .badValue s := by
  simp [extendOwner, idOf_eq_none big]

section Owner

variable {s : State} {y : StayId} {d : Nat}

theorem extendOwner_badState (clockValue : clockValueOf d = some d) (expected : (s.stay y).state ≠ .expected)
    (arrived : (s.stay y).state ≠ .arrived) : extendOwner y d s = refuse .state s := by
  simp [extendOwner, idOf_val, clockValue, expected, arrived]

theorem extendOwner_badTime (clockValue : clockValueOf d = some d)
    (state : (s.stay y).state = .expected ∨ (s.stay y).state = .arrived) (early : d ≤ (s.stay y).settings.arrival) :
    extendOwner y d s = refuse .badValue s := by
  obtain state | state := state <;> simp [extendOwner, idOf_val, clockValue, state, early]

theorem extendOwner_accepts (clockValue : clockValueOf d = some d)
    (state : (s.stay y).state = .expected ∨ (s.stay y).state = .arrived) (later : (s.stay y).settings.arrival < d) :
    extendOwner y d s = done (departureRewritten y (s.withDeparture y d)) := by
  obtain state | state := state <;>
    simp [extendOwner, idOf_val, clockValue, state, Nat.not_le.mpr later, State.withDeparture]

end Owner

/-! ### What EXTEND leaves: the overstay test on the state with the new departure time -/

section Extended

variable {s : State} {y : StayId} {d : Nat}

theorem extended_stay (s : State) (y : StayId) (d : Nat) :
    ((departureRewritten y (s.withDeparture y d)).stay y).settings = { (s.stay y).settings with departure := d } ∧
    ((departureRewritten y (s.withDeparture y d)).stay y).state = (s.stay y).state ∧
    ((departureRewritten y (s.withDeparture y d)).stay y).berth = (s.stay y).berth := by
  obtain ⟨noted, met, stay⟩ := departureRewritten_stay y (s.withDeparture y d)
  simp [stay]

theorem extended_stay_ne {z : StayId} (other : z ≠ y) :
    (departureRewritten y (s.withDeparture y d)).stay z = s.stay z :=
  (departureRewritten_stay_ne other _).trans (withDeparture_stay_ne s y d other)

theorem extended_keepsBut (s : State) (y : StayId) (d : Nat) :
    (departureRewritten y (s.withDeparture y d)).KeepsBut s [.register, .clock, .notices] :=
  (departureRewritten_keepsBut y _).trans (withDeparture_keepsBut s y d) (by simp) (by simp)

theorem extended_of_later (state : (s.stay y).state = .arrived) (isSet : s.clock.isSet = true)
    (later : s.clock.value < d) :
    ((departureRewritten y (s.withDeparture y d)).stay y).overstayNoted = false ∧
    (departureRewritten y (s.withDeparture y d)).trunk.notices = s.trunk.notices := by
  rw [departureRewritten_of_later] <;> simp [state, isSet, later]

theorem extended_of_noted (state : (s.stay y).state = .arrived) (isSet : s.clock.isSet = true)
    (reached : d ≤ s.clock.value) (noted : (s.stay y).overstayNoted = true) :
    departureRewritten y (s.withDeparture y d) = s.withDeparture y d :=
  departureRewritten_of_noted (by simpa) isSet (by simpa) (by simpa)

theorem extended_of_overstay (state : (s.stay y).state = .arrived) (isSet : s.clock.isSet = true)
    (reached : d ≤ s.clock.value) (fresh : (s.stay y).overstayNoted = false) :
    departureRewritten y (s.withDeparture y d) = noteOverstay y (s.withDeparture y d) :=
  departureRewritten_of_overstay (by simpa) isSet (by simpa) (by simpa)

/-- A departure time that the clock has reached leaves the stay noted, whether or not it was (R11, R19). -/
theorem extended_noted (state : (s.stay y).state = .arrived) (isSet : s.clock.isSet = true)
    (reached : d ≤ s.clock.value) :
    ((departureRewritten y (s.withDeparture y d)).stay y).overstayNoted = true := by
  cases noted : (s.stay y).overstayNoted with
  | true => simpa [extended_of_noted state isSet reached noted] using noted
  | false => rw [extended_of_overstay state isSet reached noted, noteOverstay_stay]

theorem extended_raises (state : (s.stay y).state = .arrived) (isSet : s.clock.isSet = true)
    (reached : d ≤ s.clock.value) (fresh : (s.stay y).overstayNoted = false)
    (room : s.trunk.notices.length < Config.noticeLimit) :
    (departureRewritten y (s.withDeparture y d)).trunk.notices =
      s.trunk.notices ++ [{ note := .overstay y (s.stay y).berth d, time := s.clock.value }] := by
  rw [extended_of_overstay state isSet reached fresh, noteOverstay_notices (by simpa using room)]
  simp [State.stamp, isSet]

theorem extended_of_expected (state : (s.stay y).state = .expected) :
    departureRewritten y (s.withDeparture y d) = s.withDeparture y d :=
  departureRewritten_of_not_arrived (by simp [state])

/-- While the clock is unset OVERSTAY_NOTED stands (R11). -/
theorem extended_of_unset (unset : s.clock.isSet = false) :
    ((departureRewritten y (s.withDeparture y d)).stay y).overstayNoted = (s.stay y).overstayNoted := by
  by_cases state : (s.stay y).state = .arrived
  · rw [departureRewritten_of_unset (s := s.withDeparture y d) (by simpa) unset,
      stay_eq_of_register (noteClockUse_register _)]
    simp
  · rw [departureRewritten_of_not_arrived (by simpa)]
    simp

end Extended

/-- An EXTEND within R11 is accepted, and leaves the new departure time with its overstay test. -/
theorem extend_next {s : State} {h : ReqHeader} {w : List Byte} {y : StayId} {d : Nat} (taken : s.Takes h 0x15 w)
    (stayRead : rd w 0 2 = y.val) (timeRead : rd w 2 4 = d)
    (state : (s.stay y).state = .expected ∨ (s.stay y).state = .arrived) (later : (s.stay y).settings.arrival < d) :
    ∃ t, exec (.extend h w) s = .next t ∧ t.Replies s h 0x15 (.done []) ∧
      t.KeepsBut (departureRewritten y (s.withDeparture y d)) [.answers] := by
  have accepts := extendOwner_accepts (timeRead ▸ clockValueOf_rd w 2) state later
  have next := request_next taken (owner := extendOwner y d) (by simp [accepts])
  rw [accepts] at next
  rwa [exec_extend, stayRead, timeRead]

/-- Settles O25: the refusals by the owner's tests of R11, the accepted request by the cases of the overstay test (R19). -/
theorem extendWritesDeparture : Obligations.ExtendWritesDeparture := by
  unfold Obligations.ExtendWritesDeparture
  intro s h d w taken timeRead
  have clockValue : clockValueOf d = some d := timeRead ▸ clockValueOf_rd w 2
  refine ⟨fun big => refuses_of_owner taken (exec_extend h w s) (extendOwner_badStay big _ s), fun y stayRead => ?_⟩
  have row : exec (.extend h w) s = request h 0x15 w (extendOwner y d) s := by rw [exec_extend, stayRead, timeRead]
  refine ⟨fun state later => ?accepted,
    fun expected arrived => refuses_of_owner taken row (extendOwner_badState clockValue expected arrived),
    fun state early => refuses_of_owner taken row (extendOwner_badTime clockValue state early)⟩
  case accepted =>
    obtain ⟨t, next, replies, keeps⟩ := extend_next taken stayRead timeRead state later
    have same := State.keepsBut_iff.mp keeps
    have register : t.register = _ := same .register (by simp)
    have clock : t.clock = _ := same .clock (by simp)
    obtain ⟨notices, -⟩ := same .notices (by simp)
    obtain ⟨settings, stayState, berth⟩ := extended_stay s y d
    refine ⟨t, next, replies, ?_⟩
    simp only [stay_eq_of_register register, clock, notices]
    refine ⟨settings, stayState, berth, extended_of_later, extended_noted, extended_raises,
      fun arrived isSet reached noted => ?noted, fun expected => ?expected, ?unset,
      fun isSet => departureRewritten_clock (s := s.withDeparture y d) isSet y,
      fun z other => extended_stay_ne other, ?berths, ?arrivals,
      keeps.trans (extended_keepsBut s y d) (by simp) (by simp)⟩
    case noted => simp [extended_of_noted arrived isSet reached noted]
    case expected => simp [extended_of_expected expected]
    case unset =>
      rintro (expected | unset)
      · simp [extended_of_expected expected]
      · exact extended_of_unset unset
    case berths => simp [register]
    case arrivals => simp [State.arrivals, register]

end Sys2Proof.Machine
end

