-- ==== Sys2Proof/Proofs/Allocate.lean ====
section
/-! SUPPORT. The request queue of the Fit Engine when an entry joins it (R25, R27), ALLOCATE (R26), and the proof of its
statement. -/

namespace Sys2Proof.Machine

/-! ### The next attempt (R27) -/

section Next

variable {s : State} {e : FitEntry} {rest : List FitEntry}

/-- A scan in flight keeps its subject: nothing begins. -/
theorem beginNext_of_scanning (scanning : s.engine.scan.isSome = true) : beginNext s = s := by
  obtain ⟨x, scan⟩ := Option.isSome_iff_exists.mp scanning
  simp [beginNext, scan]

theorem beginNext_of_empty (empty : s.engine.queue = []) : beginNext s = s := by
  simp [beginNext, empty]

theorem beginNext_of_idle (idle : s.engine.scan = none) (queue : s.engine.queue = e :: rest) :
    beginNext s = beginAttempt 1 e.stay s := by
  simp [beginNext, idle, queue]

end Next

/-- What begins next changes the scan alone. -/
theorem beginNext_engine (s : State) : ∃ scan, (beginNext s).engine = { s.engine with scan := scan } := by
  cases scan : s.engine.scan with
  | some x => exact ⟨_, by rw [beginNext_of_scanning (by simp [scan])]⟩
  | none =>
    cases queue : s.engine.queue with
    | nil => exact ⟨_, by rw [beginNext_of_empty queue]⟩
    | cons e rest => exact ⟨_, by rw [beginNext_of_idle scan queue, beginAttempt, setEngine_engine]⟩

/-! ### An entry that joins the queue (R26, R28, R29) -/

section Enqueue

variable (e : FitEntry) (s : State)

theorem enqueueFit_engine :
    (enqueueFit e s).engine.queue = s.engine.queue ++ [e] ∧
    (enqueueFit e s).engine.leadMarks = s.engine.leadMarks ∧
    (enqueueFit e s).engine.resubmit = s.engine.resubmit := by
  obtain ⟨scan, engine⟩ := beginNext_engine (s.setEngine { s.engine with queue := s.engine.queue ++ [e] })
  simp [enqueueFit, engine]

theorem enqueueFit_keepsBut : (enqueueFit e s).KeepsBut s [.engine] := by
  rw [State.keepsBut_iff]
  intro b out
  cases b <;> simp_all [Block.Same, State.signal]

variable {e s}

theorem enqueueFit_of_scanning (scanning : s.engine.scan.isSome = true) :
    (enqueueFit e s).engine.scan = s.engine.scan := by
  rw [enqueueFit, beginNext_of_scanning (by simpa using scanning), setEngine_engine]

/-- With an idle scan and an empty queue the new entry is the head, and its attempt 1 captures the stay's values (R30). -/
theorem enqueueFit_of_idle (idle : s.engine.scan = none) (empty : s.engine.queue = []) :
    (enqueueFit e s).engine.scan =
      some { attempt := 1, position := 0, walked := false, captured := (s.stay e.stay).settings.fit, best := none,
             freeSeen := 0 } := by
  rw [enqueueFit, beginNext_of_idle (e := e) (rest := []) (by simpa using idle) (by simp [empty]), beginAttempt,
    setEngine_engine, setEngine_get_stay]

end Enqueue

/-! ### ALLOCATE (R26), one equation for each outcome -/

theorem exec_allocate (h : ReqHeader) (p : List Byte) (s : State) :
    exec (.allocate h p) s = request h 0x1A p (allocateOwner (rd p 0 2)) s := rfl

theorem allocateOwner_badStay {n : Nat} (big : 256 ≤ n) (s : State) : allocateOwner n s = refuse .badValue s := by
  simp [allocateOwner, idOf_eq_none big]

section Owner

variable {s : State} {y : StayId}

theorem allocateOwner_notWaiting (unlisted : y ∉ s.arrivals) : allocateOwner y s = refuse .notWaiting s := by
  simp [allocateOwner, idOf_val, unlisted]

theorem allocateOwner_repeated (listed : y ∈ s.arrivals) (queued : s.fitQueued y = true) :
    allocateOwner y s = (s, .queued) := by
  simp [allocateOwner, idOf_val, listed, queued]

theorem allocateOwner_full (listed : y ∈ s.arrivals) (fresh : s.fitQueued y = false) (full : 4 ≤ s.engine.queue.length) :
    allocateOwner y s = (s, .busy) := by
  simp [allocateOwner, idOf_val, listed, fresh, Config.allocationPlaces, full]

theorem allocateOwner_queues (listed : y ∈ s.arrivals) (fresh : s.fitQueued y = false)
    (room : s.engine.queue.length < 4) :
    allocateOwner y s = (enqueueFit { stay := y, source := .office } s, .queued) := by
  simp [allocateOwner, idOf_val, listed, fresh, Config.allocationPlaces, Nat.not_le.mpr room]

end Owner

/-- An ALLOCATE that is not refused gives its owner's answer and leaves what its owner leaves. -/
theorem allocate_next {s u : State} {h : ReqHeader} {w : List Byte} {y : StayId} {body : AnswerBody}
    (taken : s.Takes h 0x1A w) (stayRead : rd w 0 2 = y.val) (answer : allocateOwner y s = (u, body))
    (owed : u.trunk.owed = s.trunk.owed) :
    ∃ t, exec (.allocate h w) s = .next t ∧ t.Replies s h 0x1A body ∧ t.KeepsBut u [.answers] := by
  have next := request_next taken (owner := allocateOwner y) (by rw [answer]; exact owed)
  rw [answer] at next
  rwa [exec_allocate, stayRead]

/-- Settles O32: each outcome of R26 by its equation for the owner, the queued entry by what joining the queue leaves. -/
theorem allocateQueuesAWaitingStay : Obligations.AllocateQueuesAWaitingStay := by
  unfold Obligations.AllocateQueuesAWaitingStay
  intro s h w taken
  refine ⟨fun big => refuses_of_owner taken (exec_allocate h w s) (allocateOwner_badStay big s), fun y stayRead => ?_⟩
  have row : exec (.allocate h w) s = request h 0x1A w (allocateOwner y) s := by rw [exec_allocate, stayRead]
  refine ⟨fun unlisted => refuses_of_owner taken row (allocateOwner_notWaiting unlisted),
    fun listed queued => allocate_next taken stayRead (allocateOwner_repeated listed queued) rfl,
    fun listed fresh full => allocate_next taken stayRead (allocateOwner_full listed fresh full) rfl,
    fun listed fresh room => ?queues⟩
  case queues =>
    obtain ⟨t, next, replies, keeps⟩ :=
      allocate_next taken stayRead (allocateOwner_queues listed fresh room) (by simp)
    have engine : t.engine = _ := State.keepsBut_iff.mp keeps .engine (by simp)
    obtain ⟨queue, leadMarks, resubmit⟩ := enqueueFit_engine { stay := y, source := .office } s
    refine ⟨t, next, replies, ?_⟩
    rw [engine]
    exact ⟨queue, leadMarks, resubmit, enqueueFit_of_scanning, enqueueFit_of_idle,
      keeps.trans (enqueueFit_keepsBut _ s) (by simp) (by simp)⟩

end Sys2Proof.Machine
end

