-- ==== Sys2Proof/Proofs/SaleJournal.lean ====
section
/-! SUPPORT. The Fuel Dock's sale journal: what READ SALE and DROP SALE answer and leave (R153), and the proof of their
statement. -/

namespace Sys2Proof.Machine

/-! ### A request by its owner's outcome -/

/-- The row of a taken request gives its owner's answer and leaves what its owner leaves: `refuses_of_owner` for an owner that
accepts. -/
theorem next_of_owner {s u : State} {c : Instr} {h : ReqHeader} {code : Nat} {p : List Byte} (taken : s.Takes h code p)
    {owner : Owner} {body : AnswerBody} (row : exec c s = request h code p owner s) (answer : owner s = (u, body))
    (owed : u.trunk.owed = s.trunk.owed) :
    ∃ t, exec c s = .next t ∧ t.Replies s h code body ∧ t.KeepsBut u [.answers] := by
  have next := request_next taken (owner := owner) (by rw [answer]; exact owed)
  rw [answer] at next
  rwa [row]

/-- A two-byte operand is at most 65,535 (R193). -/
theorem rd_two_le (bs : List Byte) (i : Nat) : rd bs i 2 ≤ 65535 := by
  have fits := rd_lt bs i 2
  omega

/-! ### The journal without its oldest record -/

/-- The state with the records of the sale journal replaced: what DROP SALE leaves. -/
def State.withJournal (s : State) (records : List SaleRecord) : State :=
  { s with fuel := { s.fuel with journal := records } }

section WithJournal

variable (s : State) (records : List SaleRecord)

@[simp] theorem withJournal_fuel : (s.withJournal records).fuel = { s.fuel with journal := records } := rfl
@[simp] theorem withJournal_trunk : (s.withJournal records).trunk = s.trunk := rfl

theorem withJournal_keepsBut : (s.withJournal records).KeepsBut s [.fuel] := by
  rw [State.keepsBut_iff]
  intro b out
  cases b
  case fuel => simp at out
  all_goals simp [Block.Same, State.withJournal, State.signal]

end WithJournal

/-! ### READ SALE (R153), one equation for each state of the journal -/

theorem exec_readSale (h : ReqHeader) (p : List Byte) (s : State) :
    exec (.readSale h p) s = request h 0x46 p readSaleOwner s := rfl

theorem readSaleOwner_of_cons {s : State} {r : SaleRecord} {rest : List SaleRecord} (journal : s.fuel.journal = r :: rest) :
    readSaleOwner s = (s, .done r.coded) := by
  simp [readSaleOwner, journal]

theorem readSaleOwner_of_empty {s : State} (empty : s.fuel.journal = []) : readSaleOwner s = (s, .done []) := by
  simp [readSaleOwner, empty, done]

/-! ### DROP SALE (R153), one equation for each outcome -/

theorem exec_dropSale (h : ReqHeader) (p : List Byte) (s : State) :
    exec (.dropSale h p) s = request h 0x47 p (dropSaleOwner (rd p 0 2)) s := rfl

section DropOwner

variable {s : State} {n : Nat} (sized : n ≤ 65535)
include sized

theorem dropSaleOwner_drops {r : SaleRecord} {rest : List SaleRecord} (journal : s.fuel.journal = r :: rest)
    (named : n = r.number) : dropSaleOwner n s = (s.withJournal rest, .done []) := by
  subst named
  simp [dropSaleOwner, Nat.not_lt.mpr sized, journal, done, State.withJournal]

theorem dropSaleOwner_mismatch {r : SaleRecord} {rest : List SaleRecord} (journal : s.fuel.journal = r :: rest)
    (other : n ≠ r.number) : dropSaleOwner n s = refuse .mismatch s := by
  simp [dropSaleOwner, Nat.not_lt.mpr sized, journal, other.symm]

theorem dropSaleOwner_empty (empty : s.fuel.journal = []) : dropSaleOwner n s = refuse .state s := by
  simp [dropSaleOwner, Nat.not_lt.mpr sized, empty]

end DropOwner

/-- A DROP SALE that names the oldest record leaves the records behind it, and nothing else of the dock moves. -/
theorem dropSale_next {s : State} {h : ReqHeader} {w : List Byte} {r : SaleRecord} {rest : List SaleRecord}
    (taken : s.Takes h 0x47 w) (journal : s.fuel.journal = r :: rest) (named : rd w 0 2 = r.number) :
    ∃ t, exec (.dropSale h w) s = .next t ∧ t.Replies s h 0x47 (.done []) ∧
      t.fuel = { s.fuel with journal := rest } ∧ t.KeepsBut s [.answers, .fuel] := by
  obtain ⟨t, next, replies, keeps⟩ := next_of_owner taken (exec_dropSale h w s)
    (dropSaleOwner_drops (rd_two_le w 0) journal named) (by simp)
  have fuel : t.fuel = _ := State.keepsBut_iff.mp keeps .fuel (by simp)
  exact ⟨t, next, replies, fuel, keeps.trans (withJournal_keepsBut s rest) (by simp) (by simp)⟩

/-- Settles O56: each outcome of R153 by its equation for the owner, the dropped record by what `dropSale_next` leaves. -/
theorem readSaleAndDropSale : Obligations.ReadSaleAndDropSale := by
  unfold Obligations.ReadSaleAndDropSale
  intro s h w
  refine ⟨fun r rest taken journal => next_of_owner taken (exec_readSale h w s) (readSaleOwner_of_cons journal) rfl,
    fun taken empty => next_of_owner taken (exec_readSale h w s) (readSaleOwner_of_empty empty) rfl,
    fun r rest taken journal named => ?drops,
    fun r rest taken journal other =>
      refuses_of_owner taken (exec_dropSale h w s) (dropSaleOwner_mismatch (rd_two_le w 0) journal other),
    fun taken empty => refuses_of_owner taken (exec_dropSale h w s) (dropSaleOwner_empty (rd_two_le w 0) empty),
    rd_two_le w 0⟩
  case drops =>
    obtain ⟨t, next, replies, fuel, keeps⟩ := dropSale_next taken journal named
    exact ⟨t, next, replies, fuel, by simp [fuel, journal], keeps⟩

end Sys2Proof.Machine
end
